-- ==== Sys2Proof/Word.lean ====
section
/-! DEFINITION. The words the block moves (00_scope.md R5, R9; 20_memory.md R46): bytes, 72-bit frames, and the packed
request (30_encoding.md R60) and response (R66) words.  Every value is unsigned; nothing is ever sign-extended (R9). -/

namespace Sys2Proof

/-- `BYTE_W`: a byte is 8 bits (R5). -/
abbrev Byte := BitVec 8

/-- A frame as the 72-bit buses `req_data` and `rsp_frame` carry it: nine bytes, byte `i` in bits `[8*i+7 : 8*i]`
(R45). -/
abbrev Frame := BitVec 72

/-- The 3-bit operation code (`OP_W`, R5). -/
abbrev Op := BitVec 3

/-- The 3-bit status code (`ST_W`, R5). -/
abbrev Status := BitVec 3

/-- The packed request word `REQ` (R60). -/
abbrev Req := BitVec 99

/-- The packed response word `RSP` (R66). -/
abbrev RspWord := BitVec 111

end Sys2Proof
end

