-- ==== Sys2Proof/Machine/Ports.lean ====
section
/-! DEFINITION. The ports of the block (10_state.md R21, R22), the response payload and the response register (R23). -/

namespace Sys2Proof.Machine

/-- How the host drives `rsp_ready` in one cycle. -/
inductive ReadyDrive where
  /-- At a level that is fixed before `req_ready` is computed, as R146 asks of the host. -/
  | fixed (level : Bool)
  /-- Combinationally from `req_ready`: the host closes the loop R146 forbids; the cycle is unspecified (R127,
  93_implementation_defined.md). -/
  | fromReqReady
  deriving DecidableEq, Repr, Inhabited

/-- The input ports in one cycle, sampled at the rising edge of `clk` that ends it (R21).  `clk` itself is the step. -/
structure Ports where
  /-- `rst`, synchronous and active high (R140). -/
  rst : Bool
  /-- `req_valid`. -/
  reqValid : Bool
  /-- `req_op`. -/
  reqOp : Op
  /-- `req_arg`. -/
  reqArg : BitVec 16
  /-- `req_len`. -/
  reqLen : BitVec 8
  /-- `req_data`. -/
  reqData : Frame
  /-- `rsp_ready`. -/
  rspReady : ReadyDrive
  deriving DecidableEq, Repr, Inhabited

/-- The response payload `p` that `Execute` returns (R23, R25). -/
structure Payload where
  status : Status
  ppm : BitVec 16
  temp : Byte
  cksum : Byte
  frame : Frame
  deriving DecidableEq, Repr

/-- The response register `RSP`, 111 bits in seven fields (R23). -/
structure Rsp where
  valid : Bool
  op : Op
  status : Status
  ppm : BitVec 16
  temp : Byte
  cksum : Byte
  frame : Frame
  deriving DecidableEq, Repr, Inhabited

/-- The output ports (R22). -/
structure Outputs where
  reqReady : Bool
  rspValid : Bool
  rspOp : Op
  rspStatus : Status
  rspPpm : BitVec 16
  rspTemp : Byte
  rspCksum : Byte
  rspFrame : Frame
  deriving DecidableEq, Repr

end Sys2Proof.Machine
end

