-- ==== Sys2Proof/Syntax.lean ====
section
/-! DEFINITION. The requests of the block: one constructor of `Instr` per row of spec/opcode_table.json, and the
listing form of requests and responses (30_encoding.md R72, R73) as structured data. -/

namespace Sys2Proof

/-- The operand fields every request carries (R60), whichever of them its operation reads (R61). -/
structure Operands where
  /-- `req.arg`, unsigned. -/
  arg : BitVec 16
  /-- `req.len`, the received byte count saturated at 255 (R67). -/
  len : BitVec 8
  /-- `req.data`, nine bytes (R21). -/
  data : Frame
  deriving DecidableEq, Repr, Inhabited

/-- One request (R60), by the table row its `op` field selects (R62).  Every constructor carries ALL operand fields of
the request, the ignored ones too, so no bit of `REQ` is lost. -/
inductive Instr where
  /-- `op = 000`, `DECODE` (R90). -/
  | decode (x : Operands)
  /-- `op = 001`, `CKSUM` (R81). -/
  | cksum (x : Operands)
  /-- `op = 010`, `BUILD_READ` (R101). -/
  | buildRead (x : Operands)
  /-- `op = 011`, `BUILD_CAL` (R102). -/
  | buildCal (x : Operands)
  /-- `op = 100`, `BUILD_RANGE` (R103). -/
  | buildRange (x : Operands)
  /-- `op = 101`, the first `RESERVED` row (R68). -/
  | reservedFive (x : Operands)
  /-- `op = 11b`, the second `RESERVED` row (R68): `low` is `op[0]`, so `op` is 6 or 7. -/
  | reservedSixSeven (low : Bool) (x : Operands)
  deriving DecidableEq, Repr

/-- A request in the listing form of R72, with the pseudo-instructions of R73. -/
inductive Listing where
  /-- `DECODE [b0 ... b(k-1)]`. -/
  | decode (bytes : List Byte)
  /-- `DECODE len=<n>, [b0 ... b(k-1)]` with `k = min(n, 9)`. -/
  | decodeLen (n : Nat) (bytes : List Byte)
  /-- `CKSUM [b1 ... b7]`. -/
  | cksum (span : List Byte)
  /-- `BUILD.READ`. -/
  | buildRead
  /-- `BUILD.CAL`. -/
  | buildCal
  /-- `BUILD.RANGE <maxPpm>`. -/
  | buildRange (maxPpm : Nat)
  /-- `.op <n>`, a raw request. -/
  | rawOp (n : Nat)
  /-- Pseudo-instruction `BUILD.RANGE2000`. -/
  | buildRange2000
  /-- Pseudo-instruction `BUILD.RANGE5000`. -/
  | buildRange5000
  /-- Pseudo-instruction `VALIDATE [b0 ... b8]`. -/
  | validate (frame : List Byte)
  deriving DecidableEq, Repr

/-- A response in the listing form of R72, `-> <STATUS> ppm=.. temp=.. cksum=.. frame=[..]`; a field left out is
`none`. -/
structure ResponseListing where
  status : Status
  ppm : Option (BitVec 16) := none
  temp : Option Byte := none
  cksum : Option Byte := none
  frame : Option (List Byte) := none
  deriving DecidableEq, Repr

end Sys2Proof
end

