-- ==== Sys2Proof/Config.lean ====
section
/-! DEFINITION. What is fixed for the machine: the parameters of 00_scope.md R5, and the free values for what the spec
leaves without a value (93_implementation_defined.md).  The free values have no body: nothing can be proved of them. -/

namespace Sys2Proof

/-! ### Parameters (R5) -/

/-- `FRAME_LEN`, as a `len` value: 9. -/
def Config.frameLen : BitVec 8 := 9#8

/-- `START_BYTE`. -/
def Config.startByte : Byte := 0xFF#8

/-- `SENSOR_ADDR`. -/
def Config.sensorAddr : Byte := 0x01#8

/-- The read command code. -/
def Config.cmdRead : Byte := 0x86#8

/-- The calibrate command code. -/
def Config.cmdCal : Byte := 0x87#8

/-- The set-range command code. -/
def Config.cmdRange : Byte := 0x99#8

/-- The first supported `maxPpm`, 2000 (R103). -/
def Config.rangeLow : BitVec 16 := 0x07D0#16

/-- The second supported `maxPpm`, 5000 (R103). -/
def Config.rangeHigh : BitVec 16 := 0x1388#16

/-! ### Free values -/

/-- FREE VALUE.  What the host drives on the input ports in the cycle numbered by `State.edge` when the state lists no
drive for it: the host may drive any value (R127).  Assumption log 1. -/
opaque Config.undrivenPorts : Nat → Machine.Ports

/-- FREE VALUE.  `RSP` after an edge at which the host closes the combinational loop (R146): any outcome is possible
(R127).  Assumption log 3. -/
opaque Config.loopedRsp : Nat → Machine.Rsp

/-- FREE VALUE.  The level of `req_ready` in a cycle with that loop.  Assumption log 3. -/
opaque Config.loopedReqReady : Nat → Bool

/-- FREE VALUE.  The requests taken as accepted at an edge with that loop: none, the one on the ports, or any other
outcome (R127).  Assumption log 3. -/
opaque Config.loopedAccepted : Nat → List Instr

/-- FREE VALUE.  The responses taken as consumed at an edge with that loop, any outcome again.  Assumption log 3. -/
opaque Config.loopedConsumed : Nat → List Machine.Rsp

/-- FREE VALUE.  `RSP` at power-up, before the first reset: every one of its 2^111 values is possible (R142).
Assumption log 4. -/
opaque Config.powerUpRsp : Machine.Rsp

end Sys2Proof
end

