-- ==== Sys2Proof/WellFormed.lean ====
section
/-! DEFINITION. Well-formedness.  `Instr` has no ill-formed term: its field types are exactly the request's field widths,
and every value of every field is legal in every operation (30_encoding.md R70).  What can be ill-formed is a request
written from outside: a number too wide for `REQ` (R71) and a listing line (R72, R73). -/

namespace Sys2Proof

/-- A number is a request word: it fits the 99 bits of `REQ` (R71). -/
def fitsRequest (w : Nat) : Bool := decide (w < 2 ^ 99)

/-- The operand ranges the listing form gives each line (R72, R73). -/
def Listing.wellFormed : Listing → Bool
  | .decode bytes => decide (bytes.length ≤ 9)
  | .decodeLen n bytes => decide (n ≤ 255) && decide (bytes.length = min n 9)
  | .cksum span => decide (span.length = 7)
  | .buildRead => true
  | .buildCal => true
  | .buildRange maxPpm => decide (maxPpm ≤ 65535)
  | .rawOp n => decide (n ≤ 7)
  | .buildRange2000 => true
  | .buildRange5000 => true
  | .validate frame => decide (frame.length = 9)

/-- A response listing writes a status the block produces (R63) and nine frame bytes, if any (R72). -/
def ResponseListing.wellFormed (l : ResponseListing) : Bool :=
  decide (l.status.toNat ≤ 4) && decide ((l.frame.map List.length).getD 9 = 9)

end Sys2Proof
end

