-- ==== Sys2Proof/Decode.lean ====
section
/-! DEFINITION. The encodings: bytes of a frame (20_memory.md R45), the request word `REQ` (30_encoding.md R60), the op
map (R62), the decoder and the encoder. -/

namespace Sys2Proof

/-! ### Frames and their bytes -/

/-- `f[i]`: byte `i` of a frame, bits `[8*i+7 : 8*i]` of the bus (R45). -/
def byteAt (f : Frame) (i : Nat) : Byte := f.extractLsb' (8 * i) 8

/-- The frame with the given bytes in link order, byte 0 in the least significant lane (R42, R45). -/
def frameOfBytes (b0 b1 b2 b3 b4 b5 b6 b7 b8 : Byte) : Frame :=
  b8 ++ b7 ++ b6 ++ b5 ++ b4 ++ b3 ++ b2 ++ b1 ++ b0

/-- The bus contents for a byte sequence in link order: the lanes beyond its end carry 00 (R72), and nine bytes at most
are carried (R21). -/
def frameOfList (bs : List Byte) : Frame :=
  frameOfBytes (bs.getD 0 0) (bs.getD 1 0) (bs.getD 2 0) (bs.getD 3 0) (bs.getD 4 0) (bs.getD 5 0) (bs.getD 6 0)
    (bs.getD 7 0) (bs.getD 8 0)

/-! ### The op map (R62) -/

def opDecode : Op := 0b000#3
def opCksum : Op := 0b001#3
def opBuildRead : Op := 0b010#3
def opBuildCal : Op := 0b011#3
def opBuildRange : Op := 0b100#3
def opReservedFive : Op := 0b101#3

/-- `11b`: 6 or 7. -/
def opReservedSixSeven (low : Bool) : Op := if low then 0b111#3 else 0b110#3

/-! ### The fields of `REQ` (R60) -/

def opField (r : Req) : Op := r.extractLsb' 0 3
def argField (r : Req) : BitVec 16 := r.extractLsb' 3 16
def lenField (r : Req) : BitVec 8 := r.extractLsb' 19 8
def dataField (r : Req) : Frame := r.extractLsb' 27 72

/-- The operand fields of a request word. -/
def operandsOf (r : Req) : Operands where
  arg := argField r
  len := lenField r
  data := dataField r

/-- `REQ = {req_data, req_len, req_arg, req_op}` (R60). -/
def packReq (op : Op) (x : Operands) : Req := x.data ++ x.len ++ x.arg ++ op

/-! ### Decoder -/

/-- The request a 99-bit word is: total, since all eight `op` values are defined and only the three `op` bits select
the operation (R62). -/
def decodeReq (r : Req) : Instr :=
  match (opField r).toNat with
  | 0 => .decode (operandsOf r)
  | 1 => .cksum (operandsOf r)
  | 2 => .buildRead (operandsOf r)
  | 3 => .buildCal (operandsOf r)
  | 4 => .buildRange (operandsOf r)
  | 5 => .reservedFive (operandsOf r)
  | 6 => .reservedSixSeven false (operandsOf r)
  | _ => .reservedSixSeven true (operandsOf r)

/-- Why a number is not a request. -/
inductive DecodeRefusal where
  /-- The number has a bit above `REQ[98]`: there is no longer form (R71).  Raised by `decodeWord` only; no request on
  the ports can be that wide.  Safe. -/
  | widerThanRequest
  deriving DecidableEq, Repr

/-- The decoder on any bits, read as one number with bit 0 first: a request, or a rejection by name. -/
def decodeWord (w : Nat) : Except DecodeRefusal Instr :=
  if fitsRequest w then .ok (decodeReq (BitVec.ofNat 99 w)) else .error .widerThanRequest

/-- The instruction the decoder reads from a word as spec/opcode_table.json numbers its bits: the `nbits` low bits are
`w`'s, every bit above them is 0. -/
def decodeTableWord (nbits w : Nat) : Option Instr :=
  match decodeWord (w % 2 ^ nbits) with
  | .ok i => some i
  | .error _ => none

/-! ### Encoder -/

/-- The `op` field of a request (R62). -/
def opOf : Instr → Op
  | .decode _ => opDecode
  | .cksum _ => opCksum
  | .buildRead _ => opBuildRead
  | .buildCal _ => opBuildCal
  | .buildRange _ => opBuildRange
  | .reservedFive _ => opReservedFive
  | .reservedSixSeven low _ => opReservedSixSeven low

/-- The operand fields of a request. -/
def operands : Instr → Operands
  | .decode x => x
  | .cksum x => x
  | .buildRead x => x
  | .buildCal x => x
  | .buildRange x => x
  | .reservedFive x => x
  | .reservedSixSeven _ x => x

/-- The request word of an instruction (R60, R62). -/
def encode (i : Instr) : Req := packReq (opOf i) (operands i)

end Sys2Proof
end

