-- ==== Sys2Proof/Machine/Operands.lean ====
section
/-! DEFINITION. Operand forms (30_encoding.md R61) and what is computed from them: the checksum (40_checksum.md R80), the
ppm word (41_decode.md R93) and the raw temperature byte (R94). -/

namespace Sys2Proof.Machine

/-- The natural-number sum of the seven span bytes, 0..1785, no wrap (R80). -/
def spanSum (b1 b2 b3 b4 b5 b6 b7 : Byte) : Nat :=
  b1.toNat + b2.toNat + b3.toNat + b4.toNat + b5.toNat + b6.toNat + b7.toNat

/-- `(0xFF - s + 1) mod 256`, on integers with the mathematical modulus (R80, R9). -/
def checksumOfSum (s : Nat) : Byte := BitVec.ofNat 8 ((0xFF - (s : Int) + 1) % 256).toNat

/-- `Checksum(b1, ..., b7)` (R80). -/
def checksum (b1 b2 b3 b4 b5 b6 b7 : Byte) : Byte := checksumOfSum (spanSum b1 b2 b3 b4 b5 b6 b7)

/-- The sum of a frame's checksum span, bytes 1 to 7 (`CK_LO`, `CK_HI`, R5). -/
def frameSum (f : Frame) : Nat :=
  spanSum (byteAt f 1) (byteAt f 2) (byteAt f 3) (byteAt f 4) (byteAt f 5) (byteAt f 6) (byteAt f 7)

/-- The checksum of a frame, over its bytes 1 to 7 (R80). -/
def frameChecksum (f : Frame) : Byte :=
  checksum (byteAt f 1) (byteAt f 2) (byteAt f 3) (byteAt f 4) (byteAt f 5) (byteAt f 6) (byteAt f 7)

/-- The ppm word of a response frame, `f[2] * 256 + f[3]`, unsigned 16-bit (R43, R93). -/
def framePpm (f : Frame) : BitVec 16 := BitVec.ofNat 16 ((byteAt f 2).toNat * 256 + (byteAt f 3).toNat)

/-- The raw temperature byte of a response frame, `f[4]`, uninterpreted (R94). -/
def frameTemp (f : Frame) : Byte := byteAt f 4

/-- The `len` value a host presents for a count of received bytes, `min(n, 255)` (R67). -/
def presentCount (n : Nat) : BitVec 8 := BitVec.ofNat 8 (min n 255)

end Sys2Proof.Machine
end

