-- ==== Sys2Proof/Machine/Flags.lean ====
section
/-! DEFINITION. `status`, the block's only condition indicator (10_state.md R24): its codes (30_encoding.md R63, 60_exceptions.md
R120) and the conditions that select them. -/

namespace Sys2Proof.Machine

def statusOk : Status := 0#3
def statusShortRead : Status := 1#3
def statusChecksumMismatch : Status := 2#3
def statusInvalidArgument : Status := 3#3
def statusIllegalOp : Status := 4#3

/-- The length check of `DECODE`: exactly nine bytes were received (R91). -/
def lengthOk (len : BitVec 8) : Bool := decide (len = Config.frameLen)

/-- The checksum check of `DECODE`: byte 8 equals the checksum of bytes 1 to 7, as 8-bit values (R92). -/
def checksumOk (f : Frame) : Bool := decide (frameChecksum f = byteAt f 8)

end Sys2Proof.Machine
end

