-- ==== Sys2Proof/Machine/State.lean ====
section
/-! DEFINITION. The state of the machine: the response register, the block's only state (10_state.md R23), and what the
host drives on the input ports at the coming edges (R21, R127). -/

namespace Sys2Proof.Machine

/-- The reset value of `RSP`: everything zero, no response held (R141). -/
def Rsp.reset : Rsp where
  valid := false
  op := 0
  status := 0
  ppm := 0
  temp := 0
  cksum := 0
  frame := 0

/-- The machine between two rising edges of `clk`. -/
structure State where
  /-- The response register `RSP` (R23). -/
  rsp : Rsp
  /-- MODEL'S OWN (log 1).  The input ports at the coming edges, next edge first; beyond the end of the list the ports
  carry `Config.undrivenPorts`. -/
  drive : List Ports
  /-- MODEL'S OWN (log 2).  The number of edges stepped so far: it only tells one edge's free values from another's. -/
  edge : Nat
  deriving DecidableEq, Repr

/-- What a rising edge does (R27, in its order of precedence, after the unspecified case of R146). -/
inductive EdgeEvent where
  /-- The host closes the combinational loop through `rsp_ready` and `req_ready` (R146). -/
  | looped
  /-- `rst = 1`. -/
  | reset
  /-- `accept = 1`. -/
  | accept
  /-- `consume = 1` and `accept = 0`. -/
  | consume
  /-- None of these. -/
  | hold
  deriving DecidableEq, Repr

/-- The reasons a step can stop with a fault: NONE.  "No behaviour of the block is treated as `fault` or `stuck`"
(93_implementation_defined.md; R124). -/
inductive Fault where
  deriving DecidableEq, Repr

/-- The reasons a step can refuse. -/
inductive Refusal where
  /-- The instruction has no meaning in the model yet: answered by an arm of `exec` only.  Safe.  No arm answers it now:
  every request gets a response (R124). -/
  | notModelled (mnemonic : String)
  deriving DecidableEq, Repr

/-- The machine right after reset (R141): no response held, and no drive listed for the coming edges. -/
def State.reset : State where
  rsp := Rsp.reset
  drive := []
  edge := 0

/-- The machine at power-up, before the first reset: `RSP` is unspecified (R142; log 4).  That the edges from here to the
first reset follow R27 is the model's choice (log 13). -/
def State.powerUp : State where
  rsp := Config.powerUpRsp
  drive := []
  edge := 0

end Sys2Proof.Machine
end

