-- ==== Sys2Proof/Machine/Ops.lean ====
section
/-! DEFINITION. The shared operations: payloads, the accepting write of the response register, the packed words, and the
clock edge (10_state.md R22 to R27).  The block has no exception entry: an error is a status written by the accepting
write like any other payload (60_exceptions.md R123), so `respond` is the one operation that reports both. -/

namespace Sys2Proof.Machine

/-! ### Payloads -/

/-- The payload of an operation that has written nothing yet: every field is 0 (R69). -/
def Payload.zero : Payload where
  status := statusOk
  ppm := 0
  temp := 0
  cksum := 0
  frame := 0

/-- The payload of an error that records nothing but its status (R120). -/
def errorPayload (st : Status) : Payload := { Payload.zero with status := st }

/-- The payload of a built command frame: the frame, and its byte 8 in `cksum` (R101 to R103). -/
def framePayload (f : Frame) : Payload := { Payload.zero with cksum := byteAt f 8, frame := f }

/-- The contents of `RSP` when it holds the response `p` to a request with code `op` (R27). -/
def responseOf (op : Op) (p : Payload) : Rsp where
  valid := true
  op := op
  status := p.status
  ppm := p.ppm
  temp := p.temp
  cksum := p.cksum
  frame := p.frame

/-- The payload part of `RSP` (R23). -/
def payloadOf (r : Rsp) : Payload where
  status := r.status
  ppm := r.ppm
  temp := r.temp
  cksum := r.cksum
  frame := r.frame

/-! ### Writes of `RSP` (R27) -/

/-- The accepting edge's write: the whole response at once (R27, R48). -/
def respond (s : State) (op : Op) (p : Payload) : State := { s with rsp := responseOf op p }

/-- The reset edge's write (R140). -/
def clearRsp (s : State) : State := { s with rsp := Rsp.reset }

/-- The consuming edge's write: only `valid` drops, every other field keeps its value (R27, R147). -/
def dropValid (s : State) : State := { s with rsp := { s.rsp with valid := false } }

/-- The unspecified write of an edge with a combinational loop: a free value (R146, log 3). -/
def loopedWrite (s : State) : State := { s with rsp := Config.loopedRsp s.edge }

/-! ### The ports and the edge -/

/-- The input ports in this cycle (R21; log 1). -/
def portsNow (s : State) : Ports :=
  match s.drive with
  | p :: _ => p
  | [] => Config.undrivenPorts s.edge

/-- The request on the ports, `REQ = {req_data, req_len, req_arg, req_op}` (R60). -/
def reqWord (p : Ports) : Req := packReq p.reqOp { arg := p.reqArg, len := p.reqLen, data := p.reqData }

/-- The request a host would have accepted at this edge: the whole of it is what the ports carry (R26, R145). -/
def fetch (s : State) : Instr := decodeReq (reqWord (portsNow s))

/-- `req_ready = (not rst) and ((not RSP.valid) or rsp_ready)` (R26). -/
def readyLevel (rst valid rspReady : Bool) : Bool := !rst && (!valid || rspReady)

/-- `consume = RSP.valid and rsp_ready and (not rst)` (R26). -/
def consumeLevel (rst valid rspReady : Bool) : Bool := valid && rspReady && !rst

/-- The combinational output `req_ready` in this cycle (R22, R26); free when the host closes the loop (log 3). -/
def reqReady (s : State) : Bool :=
  match (portsNow s).rspReady with
  | .fixed level => readyLevel (portsNow s).rst s.rsp.valid level
  | .fromReqReady => Config.loopedReqReady s.edge

/-- What the coming edge does, in the order of precedence of R27. -/
def edgeEvent (s : State) : EdgeEvent :=
  match (portsNow s).rspReady with
  | .fromReqReady => .looped
  | .fixed level =>
    if (portsNow s).rst then .reset
    else if (portsNow s).reqValid && readyLevel (portsNow s).rst s.rsp.valid level then .accept
    else if consumeLevel (portsNow s).rst s.rsp.valid level then .consume
    else .hold

/-- The passage to the next cycle: the sampled ports are gone, the next drive is on the ports (log 1, log 2). -/
def tick (s : State) : State := { s with drive := s.drive.tail, edge := s.edge + 1 }

/-- The output ports in this cycle (R22). -/
def outputs (s : State) : Outputs where
  reqReady := reqReady s
  rspValid := s.rsp.valid
  rspOp := s.rsp.op
  rspStatus := s.rsp.status
  rspPpm := s.rsp.ppm
  rspTemp := s.rsp.temp
  rspCksum := s.rsp.cksum
  rspFrame := s.rsp.frame

/-- The ports of a cycle in which the host presents a request and takes a held response, so that it is accepted whatever
`RSP.valid` is (R26). -/
def presentReq (r : Req) : Ports where
  rst := false
  reqValid := true
  reqOp := opField r
  reqArg := argField r
  reqLen := lenField r
  reqData := dataField r
  rspReady := .fixed true

/-! ### The packed response word (R66) -/

/-- `RSP = {frame, cksum, temp, ppm, status, op, valid}` (R66). -/
def packRsp (r : Rsp) : RspWord :=
  r.frame ++ r.cksum ++ r.temp ++ r.ppm ++ r.status ++ r.op ++ BitVec.ofBool r.valid

/-- The response register whose packed word is `w` (R66). -/
def unpackRsp (w : RspWord) : Rsp where
  valid := w.getLsbD 0
  op := w.extractLsb' 1 3
  status := w.extractLsb' 4 3
  ppm := w.extractLsb' 7 16
  temp := w.extractLsb' 23 8
  cksum := w.extractLsb' 31 8
  frame := w.extractLsb' 39 72

end Sys2Proof.Machine
end

