-- ==== Sys2Proof/Machine/Builder.lean ====
section
/-! DEFINITION. The fixed command-frame builder (42_command_builder.md): the four constants (R100) and `BUILD_READ`,
`BUILD_CAL`, `BUILD_RANGE` (R101 to R103). -/

namespace Sys2Proof.Machine

/-- `FRAME_READ` (R100). -/
def frameRead : Frame :=
  frameOfBytes Config.startByte Config.sensorAddr Config.cmdRead 0x00 0x00 0x00 0x00 0x00 0x79

/-- `FRAME_CAL` (R100). -/
def frameCal : Frame :=
  frameOfBytes Config.startByte Config.sensorAddr Config.cmdCal 0x00 0x00 0x00 0x00 0x00 0x78

/-- `FRAME_RANGE2000` (R100). -/
def frameRange2000 : Frame :=
  frameOfBytes Config.startByte Config.sensorAddr Config.cmdRange 0x00 0x00 0x00 0x07 0xD0 0x8F

/-- `FRAME_RANGE5000` (R100).  The spec derives bytes 0 to 7 (92_eei_decisions.md D22; log 8). -/
def frameRange5000 : Frame :=
  frameOfBytes Config.startByte Config.sensorAddr Config.cmdRange 0x00 0x00 0x00 0x13 0x88 0xCB

/-- The `BUILD_READ` arm of `Execute` (R101): every operand field is ignored. -/
def buildReadPayload (_x : Operands) : Payload := framePayload frameRead

/-- The `BUILD_CAL` arm of `Execute` (R102): every operand field is ignored, and the fresh-air precondition is not
checked (R105). -/
def buildCalPayload (_x : Operands) : Payload := framePayload frameCal

/-- The `BUILD_RANGE` arm of `Execute` (R103): `arg` is compared as a whole 16-bit value. -/
def buildRangePayload (x : Operands) : Payload :=
  if x.arg = Config.rangeLow then framePayload frameRange2000
  else if x.arg = Config.rangeHigh then framePayload frameRange5000
  else errorPayload statusInvalidArgument

/-- `BUILD_READ` accepted at this edge (R101, R27). -/
def execBuildRead (x : Operands) (s : State) : Host.Outcome State Fault Refusal :=
  .next (respond s opBuildRead (buildReadPayload x))

/-- `BUILD_CAL` accepted at this edge (R102, R27). -/
def execBuildCal (x : Operands) (s : State) : Host.Outcome State Fault Refusal :=
  .next (respond s opBuildCal (buildCalPayload x))

/-- `BUILD_RANGE` accepted at this edge (R103, R27). -/
def execBuildRange (x : Operands) (s : State) : Host.Outcome State Fault Refusal :=
  .next (respond s opBuildRange (buildRangePayload x))

end Sys2Proof.Machine
end

