-- ==== Sys2Proof/Machine/Checksum.lean ====
section
/-! DEFINITION. `CKSUM` (40_checksum.md R81): the checksum of the seven span bytes at frame positions 1 to 7. -/

namespace Sys2Proof.Machine

/-- The `CKSUM` arm of `Execute` (R81): no error, every input is legal. -/
def cksumPayload (x : Operands) : Payload := { Payload.zero with cksum := frameChecksum x.data }

/-- `CKSUM` accepted at this edge (R81, R27). -/
def execCksum (x : Operands) (s : State) : Host.Outcome State Fault Refusal :=
  .next (respond s opCksum (cksumPayload x))

end Sys2Proof.Machine
end

