-- ==== Sys2Proof/Machine/Reserved.lean ====
section
/-! DEFINITION. The reserved operations (30_encoding.md R68): a defined answer, `ILLEGAL_OP`, with the reserved code echoed
in `RSP.op`. -/

namespace Sys2Proof.Machine

/-- The reserved arms of `Execute` (R68): every operand field is ignored. -/
def reservedPayload (_x : Operands) : Payload := errorPayload statusIllegalOp

/-- `op = 5` accepted at this edge (R68, R27). -/
def execReservedFive (x : Operands) (s : State) : Host.Outcome State Fault Refusal :=
  .next (respond s opReservedFive (reservedPayload x))

/-- `op = 6` or `op = 7` accepted at this edge (R68, R27). -/
def execReservedSixSeven (low : Bool) (x : Operands) (s : State) : Host.Outcome State Fault Refusal :=
  .next (respond s (opReservedSixSeven low) (reservedPayload x))

end Sys2Proof.Machine
end

