-- ==== Sys2Proof/Machine/ResponseDecode.lean ====
section
/-! DEFINITION. `DECODE` (41_decode.md R90 to R96): validate a received response frame and extract its reading. -/

namespace Sys2Proof.Machine

/-- The `DECODE` arm of `Execute` (R90): the length is tested first, then the checksum (R121). -/
def decodePayload (x : Operands) : Payload :=
  if lengthOk x.len then
    if checksumOk x.data then
      { status := statusOk
        ppm := framePpm x.data
        temp := frameTemp x.data
        cksum := frameChecksum x.data
        frame := 0 }
    else { Payload.zero with status := statusChecksumMismatch, cksum := frameChecksum x.data }
  else errorPayload statusShortRead

/-- `DECODE` accepted at this edge (R90, R27). -/
def execDecode (x : Operands) (s : State) : Host.Outcome State Fault Refusal :=
  .next (respond s opDecode (decodePayload x))

end Sys2Proof.Machine
end

