-- ==== Sys2Proof/Machine/Transaction.lean ====
section
/-! DEFINITION. The transaction level (00_scope.md R7): `Execute`, a total pure function from one request to its response
payload (10_state.md R25), and the host's way of presenting a request (30_encoding.md R67, R72, R73). -/

namespace Sys2Proof.Machine

/-- `Execute(req)` (R25): the arm its `op` selects (R62).  No state is an argument. -/
def execute : Instr → Payload
  | .decode x => decodePayload x
  | .cksum x => cksumPayload x
  | .buildRead x => buildReadPayload x
  | .buildCal x => buildCalPayload x
  | .buildRange x => buildRangePayload x
  | .reservedFive x => reservedPayload x
  | .reservedSixSeven _ x => reservedPayload x

/-- The response register's contents for an accepted request (R27). -/
def responseTo (i : Instr) : Rsp := responseOf (opOf i) (execute i)

/-- The operands by which a host presents a byte sequence it received, of any length, to `DECODE` (R67). -/
def presentBytes (bytes : List Byte) : Operands where
  arg := 0
  len := presentCount bytes.length
  data := frameOfList bytes

/-- The request a listing line stands for (R72, R73). -/
def expandListing : Listing → Instr
  | .decode bytes => .decode { arg := 0, len := BitVec.ofNat 8 bytes.length, data := frameOfList bytes }
  | .decodeLen n bytes => .decode { arg := 0, len := BitVec.ofNat 8 n, data := frameOfList bytes }
  | .cksum span => .cksum { arg := 0, len := 0, data := frameOfList ([0] ++ span ++ [0]) }
  | .buildRead => .buildRead { arg := 0, len := 0, data := 0 }
  | .buildCal => .buildCal { arg := 0, len := 0, data := 0 }
  | .buildRange maxPpm => .buildRange { arg := BitVec.ofNat 16 maxPpm, len := 0, data := 0 }
  | .rawOp n => decodeReq (BitVec.ofNat 99 n)
  | .buildRange2000 => .buildRange { arg := 0x07D0, len := 0, data := 0 }
  | .buildRange5000 => .buildRange { arg := 0x1388, len := 0, data := 0 }
  | .validate frame => .decode { arg := 0, len := 9, data := frameOfList frame }

/-- The payload a response listing stands for: a field left out is zero (R72). -/
def expandResponse (l : ResponseListing) : Payload where
  status := l.status
  ppm := l.ppm.getD 0
  temp := l.temp.getD 0
  cksum := l.cksum.getD 0
  frame := frameOfList (l.frame.getD [])

end Sys2Proof.Machine
end

