-- ==== Sys2Proof/Machine/Dispatch.lean ====
section
/-! DEFINITION. The accepting edge's write for each request (10_state.md R27): one arm per constructor of `Instr`. -/

namespace Sys2Proof.Machine

def exec (i : Instr) (s : State) : Host.Outcome State Fault Refusal :=
  match i with
  | .decode x => Sys2Proof.Machine.execDecode x s
  | .cksum x => Sys2Proof.Machine.execCksum x s
  | .buildRead x => Sys2Proof.Machine.execBuildRead x s
  | .buildCal x => Sys2Proof.Machine.execBuildCal x s
  | .buildRange x => Sys2Proof.Machine.execBuildRange x s
  | .reservedFive x => Sys2Proof.Machine.execReservedFive x s
  | .reservedSixSeven low x => Sys2Proof.Machine.execReservedSixSeven low x s

end Sys2Proof.Machine
end

