-- ==== Sys2Proof/Machine/Step.lean ====
section
/-! DEFINITION. One rising edge of `clk` (10_state.md R27), and how the host's check places a request where the next edge
takes it. -/

namespace Sys2Proof.Machine

/-- One rising edge of `clk`.  An accepted request is run by `exec`; every edge passes on to the next cycle.
MODEL'S CHOICE (log 13): R27 is applied from power-up on, also to edges before the first reset, where the spec can be
read as leaving `RSP` unspecified (92_eei_decisions.md D29) and every rule as holding only after boot (R144). -/
def step (s : State) : Host.Outcome State Fault Refusal :=
  match edgeEvent s with
  | .looped => .next (tick (loopedWrite s))
  | .reset => .next (tick (clearRsp s))
  | .accept => exec (fetch s) (tick s)
  | .consume => .next (tick (dropValid s))
  | .hold => .next (tick s)

/-- The state in which the coming edge accepts the request whose word is `w`'s low `nbits` bits and zeros above (log 5):
the host presents it and takes whatever response is held. -/
def State.withFetchWord (s : State) (nbits w : Nat) : State :=
  { s with drive := presentReq (BitVec.ofNat 99 (w % 2 ^ nbits)) :: s.drive.tail }

end Sys2Proof.Machine
end

