-- ==== Sys2Proof/Machine/SourceCodec.lean ====
section
/-! DEFINITION. The source's own operations on byte sequences, as the spec quotes them (30_encoding.md R62, 40_checksum.md
R80, 41_decode.md R90, 42_command_builder.md R101 to R103): the codec the block realises.  `execute` is compared with
it in the obligations.  It is written apart from the block's operations: lists of bytes, and 8-bit wraparound arithmetic
for the checksum (the source's other reading, 90_conflicts.md C8). -/

namespace Sys2Proof.Machine

/-- The source's `Reading`, less the caller's timestamp (R12, R4). -/
structure Reading where
  ppm : Nat
  tempRaw : Byte
  deriving DecidableEq, Repr

/-- The source's error type of `decodeResponse` (R12). -/
inductive DecodeError where
  | shortRead
  | checksumMismatch
  deriving DecidableEq, Repr

/-- The builder's error (R12). -/
inductive BuildError where
  | invalidArgument
  deriving DecidableEq, Repr

/-- `computeChecksum`, by 8-bit wraparound arithmetic: `0xFF - sum + 1` with every step wrapped (R80, C8). -/
def computeChecksum (span : List Byte) : Byte := 0xFF#8 - span.foldl (· + ·) 0#8 + 1#8

/-- `decodeResponse(bytes) -> Result<Reading, DecodeError>` (R90). -/
def decodeResponse : List Byte → Except DecodeError Reading
  | [_, b1, b2, b3, b4, b5, b6, b7, b8] =>
    if computeChecksum [b1, b2, b3, b4, b5, b6, b7] = b8 then
      .ok { ppm := b2.toNat * 256 + b3.toNat, tempRaw := b4 }
    else .error .checksumMismatch
  | _ => .error .shortRead

/-- `buildReadCommand()` (R101). -/
def buildReadCommand : List Byte := [0xFF, 0x01, 0x86, 0, 0, 0, 0, 0, 0x79]

/-- `buildCalibrateCommand()` (R102). -/
def buildCalibrateCommand : List Byte := [0xFF, 0x01, 0x87, 0, 0, 0, 0, 0, 0x78]

/-- `buildSetRangeCommand(maxPpm)` (R103); the bytes of the 5000 frame as in R100 (D22; log 8). -/
def buildSetRangeCommand (maxPpm : Nat) : Except BuildError (List Byte) :=
  if maxPpm = 2000 then .ok [0xFF, 0x01, 0x99, 0, 0, 0, 0x07, 0xD0, 0x8F]
  else if maxPpm = 5000 then .ok [0xFF, 0x01, 0x99, 0, 0, 0, 0x13, 0x88, 0xCB]
  else .error .invalidArgument

/-- What a response payload of `DECODE` says in the source's terms (R96, R97): `OK` carries a reading, the two errors
carry none; another status is no answer of `DECODE`. -/
def readingOf (p : Payload) : Option (Except DecodeError Reading) :=
  if p.status = statusOk then some (.ok { ppm := p.ppm.toNat, tempRaw := p.temp })
  else if p.status = statusShortRead then some (.error .shortRead)
  else if p.status = statusChecksumMismatch then some (.error .checksumMismatch)
  else none

/-- The nine bytes of a frame in link order (R42). -/
def frameBytes (f : Frame) : List Byte :=
  [byteAt f 0, byteAt f 1, byteAt f 2, byteAt f 3, byteAt f 4, byteAt f 5, byteAt f 6, byteAt f 7, byteAt f 8]

/-- What a response payload of `BUILD_RANGE` says in the source's terms (R103). -/
def builtFrameOf (p : Payload) : Option (Except BuildError (List Byte)) :=
  if p.status = statusOk then some (.ok (frameBytes p.frame))
  else if p.status = statusInvalidArgument then some (.error .invalidArgument)
  else none

end Sys2Proof.Machine
end

