-- ==== Sys2Proof/Safety.lean ====
section
/-! DEFINITION. The terms claims are made in: what the host does over a run of edges, which requests are accepted and which
responses consumed, and which contents of the response register are legal. -/

namespace Sys2Proof.Machine

/-! ### Runs -/

/-- The input ports in the next `k` cycles. -/
def portsOver : Nat → State → List Ports
  | 0, _ => []
  | k + 1, s => portsNow s :: portsOver k (tick s)

/-- The host keeps its duty of R146 in a cycle: `rsp_ready` is fixed before `req_ready` is computed. -/
abbrev Ports.noLoop (p : Ports) : Prop := p.rspReady ≠ .fromReqReady

/-- The state after `k` edges; a stopped machine stays where it stopped. -/
def stateAfter : Nat → State → State
  | 0, s => s
  | k + 1, s =>
    match step s with
    | .next t => stateAfter k t
    | .fault _ => s
    | .refused _ => s

/-- The request accepted at the coming edge, if any (R26); a free value where the host closes the loop (log 3). -/
def acceptedAt (s : State) : List Instr :=
  match edgeEvent s with
  | .looped => Config.loopedAccepted s.edge
  | .reset => []
  | .accept => [fetch s]
  | .consume => []
  | .hold => []

/-- The response consumed at the coming edge, if any: also at an edge that accepts a new request (R27); a free
value where the host closes the loop (log 3). -/
def consumedAt (s : State) : List Rsp :=
  match (portsNow s).rspReady with
  | .fixed level => if consumeLevel (portsNow s).rst s.rsp.valid level then [s.rsp] else []
  | .fromReqReady => Config.loopedConsumed s.edge

/-- The response held, if any (R28: at most one). -/
def held (s : State) : List Rsp := if s.rsp.valid then [s.rsp] else []

/-- The requests accepted at the next `k` edges, in order. -/
def acceptedOver : Nat → State → List Instr
  | 0, _ => []
  | k + 1, s =>
    acceptedAt s ++
      match step s with
      | .next t => acceptedOver k t
      | .fault _ => []
      | .refused _ => []

/-- The responses consumed at the next `k` edges, in order. -/
def consumedOver : Nat → State → List Rsp
  | 0, _ => []
  | k + 1, s =>
    consumedAt s ++
      match step s with
      | .next t => consumedOver k t
      | .fault _ => []
      | .refused _ => []

/-! ### Legal contents of the response register -/

/-- The contents `RSP` can have after a reset (R23, R63, R69, R120). -/
structure LegalRsp (r : Rsp) : Prop where
  /-- Codes 5 to 7 are never produced (R63). -/
  status_range : r.status.toNat ≤ 4
  /-- `ILLEGAL_OP` is the status of the reserved codes, and of them alone (R68). -/
  illegal_iff_reserved : r.status = statusIllegalOp ↔ 5 ≤ r.op.toNat
  /-- `INVALID_ARGUMENT` is raised by `BUILD_RANGE` only (R120). -/
  invalid_only_range : r.status = statusInvalidArgument → r.op = opBuildRange
  /-- `SHORT_READ` is raised by `DECODE` only (R120). -/
  short_only_decode : r.status = statusShortRead → r.op = opDecode
  /-- `CHECKSUM_MISMATCH` is raised by `DECODE` only (R120). -/
  mismatch_only_decode : r.status = statusChecksumMismatch → r.op = opDecode
  /-- A nonzero `ppm` is a valid reading's (R23, R96). -/
  ppm_only_reading : r.ppm ≠ 0 → r.op = opDecode ∧ r.status = statusOk
  /-- A nonzero `temp` is a valid reading's (R23, R96). -/
  temp_only_reading : r.temp ≠ 0 → r.op = opDecode ∧ r.status = statusOk
  /-- A nonzero `frame` is one of the four constants, each under its own operation (R23, R100). -/
  frame_only_built : r.frame ≠ 0 → r.status = statusOk ∧
    (r.op = opBuildRead ∧ r.frame = frameRead ∨ r.op = opBuildCal ∧ r.frame = frameCal ∨
      r.op = opBuildRange ∧ (r.frame = frameRange2000 ∨ r.frame = frameRange5000))
  /-- A response that carries a frame carries its byte 8 in `cksum` (R101 to R103). -/
  frame_cksum : r.frame ≠ 0 → r.cksum = byteAt r.frame 8
  /-- A nonzero `cksum` comes with `OK` or `CHECKSUM_MISMATCH` (R96, R69). -/
  cksum_only_computed : r.cksum ≠ 0 → r.status = statusOk ∨ r.status = statusChecksumMismatch

end Sys2Proof.Machine
end

