-- ==== Sys2Proof/Certificates/Slice0/Obligations.lean ====
section
/-! DEFINITION. The statements for the provers, in the order of OBLIGATIONS.json.  A premise `rspReady = .fixed level` is
the one 70_reset_and_hazards.md R146 lets a model assume: the host's `rsp_ready` is fixed before `req_ready` is computed.
A statement over all states covers edges before the first reset too; there it holds by the model's choice of log 13,
since R144 grants the rules only after boot.
-/

open Sys2Proof Sys2Proof.Machine

/-! ### Reset -/

/-- R140. -/
def Obligations.ResetEdgeClearsResponse : Prop :=
  ∀ (s : State) (level : Bool), (portsNow s).rspReady = .fixed level → (portsNow s).rst = true →
    reqReady s = false ∧ acceptedAt s = [] ∧
    ∃ t, step s = .next t ∧
      t.rsp = { valid := false, op := 0, status := 0, ppm := 0, temp := 0, cksum := 0, frame := 0 } ∧
      ∀ level', (portsNow t).rspReady = .fixed level' → (portsNow t).rst = false →
        reqReady t = true ∧ ((portsNow t).reqValid = true → acceptedAt t = [fetch t])

/-- 70_reset_and_hazards.md section 1 (R141): the reset values and the outputs after reset. -/
def Obligations.ResetValuesAndOutputs : Prop :=
  State.reset.rsp = { valid := false, op := 0, status := 0, ppm := 0, temp := 0, cksum := 0, frame := 0 } ∧
  ∀ (s : State) (level : Bool), s.rsp = State.reset.rsp → (portsNow s).rspReady = .fixed level →
    outputs s = { reqReady := !(portsNow s).rst, rspValid := false, rspOp := 0, rspStatus := 0, rspPpm := 0, rspTemp := 0,
                  rspCksum := 0, rspFrame := 0 }

/-- R143. -/
def Obligations.ResetDropsHeldResponse : Prop :=
  ∀ (s : State) (level : Bool), (portsNow s).rspReady = .fixed level → (portsNow s).rst = true → s.rsp.valid = true →
    acceptedAt s = [] ∧ consumedAt s = [] ∧
    ∃ t, step s = .next t ∧ held t = [] ∧
      ∀ k, (∀ p ∈ portsOver k t, p.noLoop) → (consumedOver k t).Sublist ((acceptedOver k t).map responseTo)

/-- 70_reset_and_hazards.md sections 1 and 2 (R142, R144): whatever the power-up value, from the first reset edge on
the response register is legal at every edge.  What is legal comes from the sections `EveryEdgeKeepsResponseLegal` cites.
-/
def Obligations.AfterFirstResetResponseIsLegal : Prop :=
  ∀ (s : State) (k : Nat), (portsNow s).rst = true → (∀ p ∈ portsOver (k + 1) s, p.noLoop) →
    LegalRsp (stateAfter (k + 1) s).rsp

/-! ### The handshake and the clock edge -/

/-- 10_state.md section 4 (R26): the handshake signals. -/
def Obligations.HandshakeSignals : Prop :=
  ∀ (s : State) (level : Bool), (portsNow s).rspReady = .fixed level →
    (reqReady s = true ↔ (portsNow s).rst = false ∧ (s.rsp.valid = false ∨ level = true)) ∧
    acceptedAt s = (if (portsNow s).reqValid = true ∧ reqReady s = true then [fetch s] else []) ∧
    consumedAt s = (if s.rsp.valid = true ∧ level = true ∧ (portsNow s).rst = false then [s.rsp] else [])

/-- 10_state.md section 4 (R27): a step runs the request on the ports.  The accepted request is decoded from the packed
request word, `exec` writes its response, and the ports move on to the next cycle (log 1, log 2). -/
def Obligations.StepRunsAcceptedRequest : Prop :=
  ∀ (s : State) (level : Bool), (portsNow s).rspReady = .fixed level → (portsNow s).rst = false →
    (portsNow s).reqValid = true → (s.rsp.valid = false ∨ level = true) →
    step s = exec (decodeReq (reqWord (portsNow s))) { s with drive := s.drive.tail, edge := s.edge + 1 }

/-- 10_state.md section 4 (R27): the register after every edge, in the rule's order of precedence; the edge consumes the
ports of one cycle. -/
def Obligations.ClockEdgeWritesRegister : Prop :=
  ∀ (s : State) (level : Bool), (portsNow s).rspReady = .fixed level →
    step s = .next
      { rsp :=
          if (portsNow s).rst = true then
            { valid := false, op := 0, status := 0, ppm := 0, temp := 0, cksum := 0, frame := 0 }
          else if (portsNow s).reqValid = true ∧ (s.rsp.valid = false ∨ level = true) then
            { valid := true, op := (portsNow s).reqOp, status := (execute (fetch s)).status,
              ppm := (execute (fetch s)).ppm, temp := (execute (fetch s)).temp, cksum := (execute (fetch s)).cksum,
              frame := (execute (fetch s)).frame }
          else if s.rsp.valid = true ∧ level = true then { s.rsp with valid := false }
          else s.rsp
        drive := s.drive.tail
        edge := s.edge + 1 }

/-- 60_exceptions.md section 3 (R124): no input, and no state, makes the machine stop.  That an edge with a combinational
loop completes too is the MODEL'S CHOICE (log 3: R127 allows any outcome, and 93_implementation_defined.md lets a model
refuse such a host); `drive` and `edge` are the model's own fields (log 1, log 2). -/
def Obligations.EveryEdgeCompletes : Prop :=
  ∀ s : State, ∃ t, step s = .next t ∧ t.drive = s.drive.tail ∧ t.edge = s.edge + 1

/-- Log 3 (the model's form of R146, R127): at an edge with a combinational loop everything is a free value, whatever else
the ports carry: the register after it, the output `req_ready`, what is accepted and what is consumed. -/
def Obligations.LoopedEdgeIsUnspecified : Prop :=
  ∀ s : State, (portsNow s).rspReady = .fromReqReady →
    reqReady s = Config.loopedReqReady s.edge ∧ acceptedAt s = Config.loopedAccepted s.edge ∧
    consumedAt s = Config.loopedConsumed s.edge ∧
    step s = .next { rsp := Config.loopedRsp s.edge, drive := s.drive.tail, edge := s.edge + 1 }

/-- 70_reset_and_hazards.md section 3 (R145): at an edge that accepts nothing, the request ports do not matter.  For an
edge with a combinational loop this is the MODEL'S CHOICE (log 3): R127 allows any outcome there, one that depends on
the request ports included, and the free value `Config.loopedRsp` takes the edge number alone. -/
def Obligations.UnacceptedRequestLeavesNoTrace : Prop :=
  ∀ (s s' : State), s.rsp = s'.rsp → s.drive.tail = s'.drive.tail → s.edge = s'.edge →
    (portsNow s).rst = (portsNow s').rst → (portsNow s).rspReady = (portsNow s').rspReady →
    acceptedAt s = [] → acceptedAt s' = [] → step s = step s'

/-- 10_state.md section 1 (R22), 70_reset_and_hazards.md section 4 (R150): the response to an accepted request is on the
output ports in the next cycle. -/
def Obligations.AcceptedResponseIsOnOutputs : Prop :=
  ∀ (s : State) (i : Instr) (level : Bool), (portsNow s).rspReady = .fixed level → acceptedAt s = [i] →
    ∃ t, step s = .next t ∧ (outputs t).rspValid = true ∧ (outputs t).rspOp = opOf i ∧
      (outputs t).rspStatus = (execute i).status ∧ (outputs t).rspPpm = (execute i).ppm ∧
      (outputs t).rspTemp = (execute i).temp ∧ (outputs t).rspCksum = (execute i).cksum ∧
      (outputs t).rspFrame = (execute i).frame

/-- R147. -/
def Obligations.ConsumedResponseStaysOnOutputs : Prop :=
  ∀ s : State, (portsNow s).rspReady = .fixed true → (portsNow s).rst = false → (portsNow s).reqValid = false →
    s.rsp.valid = true →
    consumedAt s = [s.rsp] ∧
    ∃ t, step s = .next t ∧ (outputs t).rspValid = false ∧ (outputs t).rspOp = (outputs s).rspOp ∧
      (outputs t).rspStatus = (outputs s).rspStatus ∧ (outputs t).rspPpm = (outputs s).rspPpm ∧
      (outputs t).rspTemp = (outputs s).rspTemp ∧ (outputs t).rspCksum = (outputs s).rspCksum ∧
      (outputs t).rspFrame = (outputs s).rspFrame

/-- R24. -/
def Obligations.StatusWrittenAtAcceptAndReset : Prop :=
  ∀ (s : State) (level : Bool), (portsNow s).rspReady = .fixed level →
    ∃ t, step s = .next t ∧
      ((portsNow s).rst = true → t.rsp.status = 0) ∧
      (∀ i ∈ acceptedAt s, t.rsp.status = (execute i).status) ∧
      ((portsNow s).rst = false → acceptedAt s = [] → t.rsp.status = s.rsp.status)

/-- 60_exceptions.md section 4 (R127, second row): a response the host does not take is held unchanged, and nothing is
accepted meanwhile. -/
def Obligations.UntakenResponseIsHeld : Prop :=
  ∀ (k : Nat) (s : State), s.rsp.valid = true →
    (∀ p ∈ portsOver k s, p.rst = false ∧ p.rspReady = .fixed false) →
    (stateAfter k s).rsp = s.rsp ∧ acceptedOver k s = [] ∧ consumedOver k s = []

/-- 70_reset_and_hazards.md section 4 (R150): with `rsp_ready = 1` held, one request is accepted per edge, whatever is
held at the start. -/
def Obligations.FullThroughputWhenReady : Prop :=
  ∀ (k : Nat) (s : State),
    (∀ p ∈ portsOver k s, p.rst = false ∧ p.reqValid = true ∧ p.rspReady = .fixed true) →
    acceptedOver k s = (portsOver k s).map (fun p => decodeReq (reqWord p))

/-- R49, with resets and any host that keeps R146: responses leave in the order their requests were accepted, none twice;
a reset may drop some. -/
def Obligations.ResponsesLeaveInAcceptanceOrder : Prop :=
  ∀ (k : Nat) (s : State), (∀ p ∈ portsOver k s, p.noLoop) →
    (held s).length ≤ 1 ∧ (consumedOver k s).Sublist (held s ++ (acceptedOver k s).map responseTo)

/-- 10_state.md sections 3 and 4 (R25, R27): without a reset no response is lost or duplicated.  What was held and what
was accepted, answered by the pure `execute`, is exactly what was consumed and what is still held. -/
def Obligations.NoResponseLostOrDuplicated : Prop :=
  ∀ (k : Nat) (s : State), (∀ p ∈ portsOver k s, p.noLoop ∧ p.rst = false) →
    held s ++ (acceptedOver k s).map responseTo = consumedOver k s ++ held (stateAfter k s)

/-- R25. -/
def Obligations.ResultIndependentOfEarlierRequests : Prop :=
  ∀ (s s' : State) (level level' : Bool), (portsNow s).rspReady = .fixed level →
    (portsNow s').rspReady = .fixed level' → acceptedAt s ≠ [] → acceptedAt s = acceptedAt s' →
    ∃ t t', step s = .next t ∧ step s' = .next t' ∧ t.rsp = t'.rsp

/-- 10_state.md section 3, 00_scope.md section 4 (R7, R25): at the cycle level, running a request writes what the pure
transaction-level function returns, with the op echo, and nothing else. -/
def Obligations.ExecWritesExecutePayload : Prop :=
  ∀ (i : Instr) (s : State),
    exec i s = .next
      { s with rsp := { valid := true, op := opOf i, status := (execute i).status, ppm := (execute i).ppm,
                        temp := (execute i).temp, cksum := (execute i).cksum, frame := (execute i).frame } }

/-! ### The register's legal values -/

/-- Every edge (10_state.md section 4, R27) keeps the register legal.  The legal values are those of 10_state.md section 2
(R23) and 30_encoding.md section 3 (R63); which operation gives which field, and under which status, is from
30_encoding.md section 6 (R68, R69), 41_decode.md section 2 (R96), 60_exceptions.md section 1 (R120) and
42_command_builder.md sections 1 and 2 (R100 to R103; the 5000 frame by D22, log 8). -/
def Obligations.EveryEdgeKeepsResponseLegal : Prop :=
  ∀ (s t : State), (portsNow s).noLoop → LegalRsp s.rsp → step s = .next t → LegalRsp t.rsp

/-- 10_state.md section 2 (R23), 70_reset_and_hazards.md section 1 (R141): the reset state is legal, in the sense of the
statement above. -/
def Obligations.ResetStateIsLegal : Prop := LegalRsp State.reset.rsp

/-! ### Frames of the operations -/

/-- 10_state.md section 2 (R23, column 'written by'): what each operation leaves unchanged or zero.  No operation touches
the ports of the coming cycles; only `DECODE` gives `ppm` and `temp`, only the builders give `frame`. -/
def Obligations.OperationFrame : Prop :=
  ∀ (i : Instr) (s t : State), exec i s = .next t →
    t.drive = s.drive ∧ t.edge = s.edge ∧ t.rsp.valid = true ∧ t.rsp.op = opOf i ∧
    ((∀ x, i ≠ .decode x) → t.rsp.ppm = 0 ∧ t.rsp.temp = 0) ∧
    ((∀ x, i ≠ .buildRead x ∧ i ≠ .buildCal x ∧ i ≠ .buildRange x) → t.rsp.frame = 0)

/-- R69: every payload field an operation's rule does not write is 0. -/
def Obligations.UnwrittenFieldsAreZero : Prop :=
  ∀ x : Operands,
    (x.len ≠ 9 → execute (.decode x) = { status := 1, ppm := 0, temp := 0, cksum := 0, frame := 0 }) ∧
    (x.len = 9 → frameChecksum x.data ≠ byteAt x.data 8 →
      (execute (.decode x)).ppm = 0 ∧ (execute (.decode x)).temp = 0) ∧
    (execute (.decode x)).frame = 0 ∧
    (execute (.cksum x)).ppm = 0 ∧ (execute (.cksum x)).temp = 0 ∧ (execute (.cksum x)).frame = 0 ∧
    (execute (.buildRead x)).ppm = 0 ∧ (execute (.buildRead x)).temp = 0 ∧
    (execute (.buildCal x)).ppm = 0 ∧ (execute (.buildCal x)).temp = 0 ∧
    (execute (.buildRange x)).ppm = 0 ∧ (execute (.buildRange x)).temp = 0 ∧
    (x.arg ≠ 2000 → x.arg ≠ 5000 →
      execute (.buildRange x) = { status := 3, ppm := 0, temp := 0, cksum := 0, frame := 0 }) ∧
    execute (.reservedFive x) = { status := 4, ppm := 0, temp := 0, cksum := 0, frame := 0 } ∧
    ∀ low, execute (.reservedSixSeven low x) = { status := 4, ppm := 0, temp := 0, cksum := 0, frame := 0 }

/-- R61: a result depends only on the fields its operation reads. -/
def Obligations.IgnoredFieldsDoNotMatter : Prop :=
  ∀ x y : Operands,
    (x.len = y.len → (x.len = 9 → ∀ i, 1 ≤ i → i ≤ 8 → byteAt x.data i = byteAt y.data i) →
      execute (.decode x) = execute (.decode y)) ∧
    ((∀ i, 1 ≤ i → i ≤ 7 → byteAt x.data i = byteAt y.data i) → execute (.cksum x) = execute (.cksum y)) ∧
    execute (.buildRead x) = execute (.buildRead y) ∧
    execute (.buildCal x) = execute (.buildCal y) ∧
    (x.arg = y.arg → execute (.buildRange x) = execute (.buildRange y)) ∧
    execute (.reservedFive x) = execute (.reservedFive y) ∧
    ∀ low, execute (.reservedSixSeven low x) = execute (.reservedSixSeven low y)

/-! ### Errors -/

/-- R120: each error code, exactly when its cause holds, and what the response records. -/
def Obligations.ErrorCodesAndRecords : Prop :=
  ∀ (i : Instr) (s : State), ∃ t, exec i s = .next t ∧
    (t.rsp.status = 1 ↔ ∃ x, i = .decode x ∧ x.len ≠ 9) ∧
    (t.rsp.status = 2 ↔ ∃ x, i = .decode x ∧ x.len = 9 ∧ frameChecksum x.data ≠ byteAt x.data 8) ∧
    (t.rsp.status = 3 ↔ ∃ x, i = .buildRange x ∧ x.arg ≠ 2000 ∧ x.arg ≠ 5000) ∧
    (t.rsp.status = 4 ↔ 5 ≤ (opOf i).toNat) ∧
    (t.rsp.status = 1 →
      t.rsp = { valid := true, op := 0, status := 1, ppm := 0, temp := 0, cksum := 0, frame := 0 }) ∧
    (t.rsp.status = 2 →
      t.rsp = { valid := true, op := 0, status := 2, ppm := 0, temp := 0, cksum := frameChecksum (operands i).data,
                frame := 0 }) ∧
    (t.rsp.status = 3 →
      t.rsp = { valid := true, op := 4, status := 3, ppm := 0, temp := 0, cksum := 0, frame := 0 }) ∧
    (t.rsp.status = 4 →
      t.rsp = { valid := true, op := opOf i, status := 4, ppm := 0, temp := 0, cksum := 0, frame := 0 })

/-- R121: the priority of the conditions, over the request word itself. -/
def Obligations.StatusPriority : Prop :=
  ∀ r : Req,
    (execute (decodeReq r)).status =
      if 5 ≤ (opField r).toNat then 4
      else if opField r = 0 ∧ lenField r ≠ 9 then 1
      else if opField r = 0 ∧ frameChecksum (dataField r) ≠ byteAt (dataField r) 8 then 2
      else if opField r = 4 ∧ argField r ≠ 2000 ∧ argField r ≠ 5000 then 3
      else 0

/-- R123: an error is reported by the accepting edge's write, and the next request is answered as after any other. -/
def Obligations.ErrorChangesNoLaterRequest : Prop :=
  ∀ (i j : Instr) (s : State), ∃ t t', exec i s = .next t ∧ exec j t = .next t' ∧ exec j s = .next t' ∧
    t.rsp = responseTo i ∧ t'.rsp = responseTo j

/-! ### The checksum -/

/-- R82. -/
def Obligations.ChecksumEquivalentForms : Prop :=
  ∀ (b1 b2 b3 b4 b5 b6 b7 : Byte) (s t : Nat), s = spanSum b1 b2 b3 b4 b5 b6 b7 → t = s % 256 →
    ((checksum b1 b2 b3 b4 b5 b6 b7).toNat : Int) = (0xFF - (s : Int) + 1) % 256 ∧
    (checksum b1 b2 b3 b4 b5 b6 b7).toNat = (256 - t) % 256 ∧
    ((checksum b1 b2 b3 b4 b5 b6 b7).toNat : Int) = (-(s : Int)) % 256 ∧
    (checksum b1 b2 b3 b4 b5 b6 b7).toNat = ((0xFF ^^^ t) + 1) % 256 ∧
    (checksum b1 b2 b3 b4 b5 b6 b7).toNat = (if t ≠ 0 then (0xFF ^^^ t) + 1 else 0) ∧
    checksum b1 b2 b3 b4 b5 b6 b7 = ~~~(b1 + b2 + b3 + b4 + b5 + b6 + b7) + 1#8

/-- R80, D25: the source's 8-bit wraparound reading gives the same byte. -/
def Obligations.ChecksumAgreesWithWraparound : Prop :=
  ∀ b1 b2 b3 b4 b5 b6 b7 : Byte,
    computeChecksum [b1, b2, b3, b4, b5, b6, b7] = checksum b1 b2 b3 b4 b5 b6 b7

/-- R83. -/
def Obligations.ChecksumValidityLaw : Prop :=
  ∀ f : Frame, frameChecksum f = byteAt f 8 ↔
    ((byteAt f 1).toNat + (byteAt f 2).toNat + (byteAt f 3).toNat + (byteAt f 4).toNat + (byteAt f 5).toNat +
      (byteAt f 6).toNat + (byteAt f 7).toNat + (byteAt f 8).toNat) % 256 = 0

/-- R84. -/
def Obligations.ChecksumDetection : Prop :=
  (∀ (f g : Frame) (k : Nat), 1 ≤ k → k ≤ 8 → (∀ j, j < 9 → j ≠ k → byteAt f j = byteAt g j) →
    byteAt f k ≠ byteAt g k → frameChecksum f = byteAt f 8 → frameChecksum g ≠ byteAt g 8) ∧
  (∀ f g : Frame, (∀ j, 1 ≤ j → j ≤ 8 → byteAt f j = byteAt g j) →
    (frameChecksum f = byteAt f 8 ↔ frameChecksum g = byteAt g 8)) ∧
  (∀ f g : Frame, byteAt f 8 = byteAt g 8 → frameSum f % 256 = frameSum g % 256 →
    (frameChecksum f = byteAt f 8 ↔ frameChecksum g = byteAt g 8)) ∧
  (∀ f g : Frame, byteAt f 8 = byteAt g 8 →
    ((frameBytes f).extract 1 8).Perm ((frameBytes g).extract 1 8) →
    (frameChecksum f = byteAt f 8 ↔ frameChecksum g = byteAt g 8)) ∧
  (∀ f g : Frame, (frameSum f + (byteAt f 8).toNat) % 256 = (frameSum g + (byteAt g 8).toNat) % 256 →
    (frameChecksum f = byteAt f 8 ↔ frameChecksum g = byteAt g 8))

/-- R86. -/
def Obligations.ChecksumRangeAndCorners : Prop :=
  (∀ c : Byte, ∃ b1 b2 b3 b4 b5 b6 b7, checksum b1 b2 b3 b4 b5 b6 b7 = c) ∧
  ∀ b1 b2 b3 b4 b5 b6 b7 : Byte,
    (checksum b1 b2 b3 b4 b5 b6 b7).toNat ≤ 255 ∧
    (checksum b1 b2 b3 b4 b5 b6 b7 = 0 ↔ spanSum b1 b2 b3 b4 b5 b6 b7 % 256 = 0) ∧
    (spanSum b1 b2 b3 b4 b5 b6 b7 = 0 → checksum b1 b2 b3 b4 b5 b6 b7 = 0x00) ∧
    (spanSum b1 b2 b3 b4 b5 b6 b7 = 1 → checksum b1 b2 b3 b4 b5 b6 b7 = 0xFF) ∧
    (spanSum b1 b2 b3 b4 b5 b6 b7 = 255 → checksum b1 b2 b3 b4 b5 b6 b7 = 0x01) ∧
    (spanSum b1 b2 b3 b4 b5 b6 b7 = 256 → checksum b1 b2 b3 b4 b5 b6 b7 = 0x00) ∧
    (spanSum b1 b2 b3 b4 b5 b6 b7 = 1785 → checksum b1 b2 b3 b4 b5 b6 b7 = 0x07)

/-- R81: `CKSUM` completes on every input, with this result. -/
def Obligations.CksumResult : Prop :=
  ∀ (x : Operands) (s : State),
    exec (.cksum x) s = .next
      { s with rsp := { valid := true, op := 1, status := 0, ppm := 0, temp := 0,
                        cksum := checksum (byteAt x.data 1) (byteAt x.data 2) (byteAt x.data 3) (byteAt x.data 4)
                          (byteAt x.data 5) (byteAt x.data 6) (byteAt x.data 7),
                        frame := 0 } }

/-! ### DECODE -/

/-- R91: a count other than 9, smaller or larger, completes with `SHORT_READ` and zeros, whatever the bytes are. -/
def Obligations.DecodeShortRead : Prop :=
  ∀ (x : Operands) (s : State), x.len ≠ 9 →
    exec (.decode x) s = .next
      { s with rsp := { valid := true, op := 0, status := 1, ppm := 0, temp := 0, cksum := 0, frame := 0 } }

/-- R96: the outputs of `DECODE` by outcome; it completes on every input. -/
def Obligations.DecodeOutcomes : Prop :=
  ∀ (x : Operands) (s : State),
    (x.len ≠ 9 → exec (.decode x) s = .next
      { s with rsp := { valid := true, op := 0, status := 1, ppm := 0, temp := 0, cksum := 0, frame := 0 } }) ∧
    (x.len = 9 → frameChecksum x.data ≠ byteAt x.data 8 → exec (.decode x) s = .next
      { s with rsp := { valid := true, op := 0, status := 2, ppm := 0, temp := 0, cksum := frameChecksum x.data,
                        frame := 0 } }) ∧
    (x.len = 9 → frameChecksum x.data = byteAt x.data 8 → exec (.decode x) s = .next
      { s with rsp := { valid := true, op := 0, status := 0,
                        ppm := BitVec.ofNat 16 ((byteAt x.data 2).toNat * 256 + (byteAt x.data 3).toNat),
                        temp := byteAt x.data 4, cksum := byteAt x.data 8, frame := 0 } })

/-- R92: a response frame is valid exactly when nine bytes were received and the checksum matches. -/
def Obligations.DecodeValidIff : Prop :=
  ∀ x : Operands,
    ((execute (.decode x)).status = 0 ↔ x.len = 9 ∧ frameChecksum x.data = byteAt x.data 8) ∧
    (x.len = 9 → frameChecksum x.data ≠ byteAt x.data 8 → (execute (.decode x)).status = 2)

/-- R93: the ppm word of a valid frame, big-endian, exact over the whole range. -/
def Obligations.DecodePpmIsBigEndian : Prop :=
  ∀ x : Operands, (execute (.decode x)).status = 0 →
    (execute (.decode x)).ppm = byteAt x.data 2 ++ byteAt x.data 3 ∧
    (execute (.decode x)).ppm.toNat = (byteAt x.data 2).toNat * 256 + (byteAt x.data 3).toNat

/-- R95: start and echo byte are never checked, and bytes 1, 5, 6, 7 act through the checksum alone. -/
def Obligations.DecodeUncheckedBytes : Prop :=
  (∀ (b0 b1 b2 b3 b4 b5 b6 b7 : Byte) (arg : BitVec 16),
    (execute (.decode { arg := arg, len := 9, data := frameOfBytes b0 b1 b2 b3 b4 b5 b6 b7 (checksum b1 b2 b3 b4 b5 b6 b7)
      })).status = 0) ∧
  (∀ x y : Operands, x.len = y.len → (∀ j, 1 ≤ j → j ≤ 8 → byteAt x.data j = byteAt y.data j) →
    execute (.decode x) = execute (.decode y)) ∧
  (∀ x y : Operands, x.len = y.len → byteAt x.data 2 = byteAt y.data 2 → byteAt x.data 3 = byteAt y.data 3 →
    byteAt x.data 4 = byteAt y.data 4 → byteAt x.data 8 = byteAt y.data 8 →
    frameChecksum x.data = frameChecksum y.data → execute (.decode x) = execute (.decode y))

/-- 41_decode.md section 1 (R90, R94, R97; source's `decodeResponse`): for a byte sequence of ANY length, what the block
answers when the host presents it is what the source's codec returns. -/
def Obligations.DecodeRefinesSourceCodec : Prop :=
  ∀ bytes : List Byte, readingOf (execute (.decode (presentBytes bytes))) = some (decodeResponse bytes)

/-- R67: the count is saturated, which loses nothing a result depends on; every `arg` but the two gives
`INVALID_ARGUMENT`. -/
def Obligations.SaturatedCountLosesNothing : Prop :=
  (∀ n : Nat, (presentCount n).toNat = min n 255 ∧ (presentCount n = 9 ↔ n = 9)) ∧
  (∀ (n m : Nat) (x : Operands), n ≠ 9 → m ≠ 9 →
    execute (.decode { x with len := presentCount n }) = execute (.decode { x with len := presentCount m })) ∧
  (∀ x : Operands, x.arg.toNat ≠ 2000 → x.arg.toNat ≠ 5000 → (execute (.buildRange x)).status = 3)

/-! ### The builders and the reserved operations -/

/-- R101: `BUILD_READ` completes on every input, with this result. -/
def Obligations.BuildReadResult : Prop :=
  ∀ (x : Operands) (s : State),
    exec (.buildRead x) s = .next
      { s with rsp := { valid := true, op := 2, status := 0, ppm := 0, temp := 0, cksum := 0x79,
                        frame := 0x7900000000008601FF } }

/-- R102: `BUILD_CAL` completes on every input, with this result. -/
def Obligations.BuildCalResult : Prop :=
  ∀ (x : Operands) (s : State),
    exec (.buildCal x) s = .next
      { s with rsp := { valid := true, op := 3, status := 0, ppm := 0, temp := 0, cksum := 0x78,
                        frame := 0x7800000000008701FF } }

/-- 42_command_builder.md section 2 (R103): `BUILD_RANGE` completes on every input, with these results.  The bytes of the
5000 frame are the spec's own derivation (92_eei_decisions.md D22; log 8). -/
def Obligations.BuildRangeResult : Prop :=
  ∀ (x : Operands) (s : State),
    exec (.buildRange x) s = .next
      { s with rsp :=
          if x.arg.toNat = 2000 then
            { valid := true, op := 4, status := 0, ppm := 0, temp := 0, cksum := 0x8F, frame := 0x8FD0070000009901FF }
          else if x.arg.toNat = 5000 then
            { valid := true, op := 4, status := 0, ppm := 0, temp := 0, cksum := 0xCB, frame := 0xCB88130000009901FF }
          else { valid := true, op := 4, status := 3, ppm := 0, temp := 0, cksum := 0, frame := 0 } }

/-- 42_command_builder.md section 2 (R103; source's `buildSetRangeCommand`): the block's answer to every 16-bit value is
the source's.  The 5000 frame's bytes are the spec's derivation (92_eei_decisions.md D22; log 8). -/
def Obligations.BuildRangeRefinesSourceCodec : Prop :=
  ∀ (n : Nat) (len : BitVec 8) (data : Frame), n < 65536 →
    builtFrameOf (execute (.buildRange { arg := BitVec.ofNat 16 n, len := len, data := data })) =
      some (buildSetRangeCommand n)

/-- 30_encoding.md section 4 (R64): the format of every frame a builder gives.  For `arg` 5000 the clause on bytes 6 and 7
is the spec's own inference (92_eei_decisions.md D22; log 8). -/
def Obligations.BuiltFramesMeetFormat : Prop :=
  ∀ x : Operands,
    (∀ i ∈ [Instr.buildRead x, .buildCal x, .buildRange x], (execute i).status = 0 →
      byteAt (execute i).frame 0 = 0xFF ∧ byteAt (execute i).frame 1 = 0x01 ∧
      byteAt (execute i).frame 3 = 0 ∧ byteAt (execute i).frame 4 = 0 ∧ byteAt (execute i).frame 5 = 0 ∧
      byteAt (execute i).frame 8 = frameChecksum (execute i).frame) ∧
    byteAt (execute (.buildRead x)).frame 2 = 0x86 ∧
    byteAt (execute (.buildRead x)).frame 6 = 0 ∧ byteAt (execute (.buildRead x)).frame 7 = 0 ∧
    byteAt (execute (.buildCal x)).frame 2 = 0x87 ∧
    byteAt (execute (.buildCal x)).frame 6 = 0 ∧ byteAt (execute (.buildCal x)).frame 7 = 0 ∧
    ((execute (.buildRange x)).status = 0 →
      byteAt (execute (.buildRange x)).frame 2 = 0x99 ∧
      byteAt (execute (.buildRange x)).frame 6 ++ byteAt (execute (.buildRange x)).frame 7 = x.arg)

/-- 42_command_builder.md section 3 (R104; the 5000 frame by D22, log 8): the constants satisfy the checksum, `CKSUM` of each returns its byte 8, and `DECODE` of each gives `OK`, a ppm
of no meaning and `temp = 0`. -/
def Obligations.CommandFramesDecodeAsValid : Prop :=
  ∀ c ∈ [(frameRead, 0x79#8, 34304), (frameCal, 0x78#8, 34560), (frameRange2000, 0x8F#8, 39168),
      (frameRange5000, 0xCB#8, 39168)],
    byteAt c.1 8 = c.2.1 ∧ frameChecksum c.1 = c.2.1 ∧
    ∀ (arg : BitVec 16) (len : BitVec 8),
      execute (.cksum { arg := arg, len := len, data := c.1 }) =
        { status := 0, ppm := 0, temp := 0, cksum := c.2.1, frame := 0 } ∧
      execute (.decode { arg := arg, len := 9, data := c.1 }) =
        { status := 0, ppm := BitVec.ofNat 16 c.2.2, temp := 0, cksum := c.2.1, frame := 0 }

/-- R68: the reserved operations complete on every input, with this result. -/
def Obligations.ReservedResult : Prop :=
  ∀ (x : Operands) (s : State),
    exec (.reservedFive x) s = .next
      { s with rsp := { valid := true, op := 5, status := 4, ppm := 0, temp := 0, cksum := 0, frame := 0 } } ∧
    exec (.reservedSixSeven false x) s = .next
      { s with rsp := { valid := true, op := 6, status := 4, ppm := 0, temp := 0, cksum := 0, frame := 0 } } ∧
    exec (.reservedSixSeven true x) s = .next
      { s with rsp := { valid := true, op := 7, status := 4, ppm := 0, temp := 0, cksum := 0, frame := 0 } }

/-! ### Encodings -/

/-- 30_encoding.md sections 1 and 2 (R60, R62): decoding an encoded request gives it back, every operand bit of every
operation included.  `Instr` has no ill-formed term. -/
def Obligations.DecodeOfEncodeIsIdentity : Prop :=
  ∀ i : Instr, decodeReq (encode i) = i ∧ decodeWord (encode i).toNat = .ok i

/-- 30_encoding.md sections 1 and 2 (R60, R62, R71): every 99-bit word is the encoding of the request it decodes to. -/
def Obligations.EncodeOfDecodeIsIdentity : Prop := ∀ r : Req, encode (decodeReq r) = r

/-- R62: the op map, on every request word. -/
def Obligations.OpMapSelectsOperation : Prop :=
  ∀ r : Req,
    (r.extractLsb' 0 3 = 0b000#3 → decodeReq r = .decode (operandsOf r)) ∧
    (r.extractLsb' 0 3 = 0b001#3 → decodeReq r = .cksum (operandsOf r)) ∧
    (r.extractLsb' 0 3 = 0b010#3 → decodeReq r = .buildRead (operandsOf r)) ∧
    (r.extractLsb' 0 3 = 0b011#3 → decodeReq r = .buildCal (operandsOf r)) ∧
    (r.extractLsb' 0 3 = 0b100#3 → decodeReq r = .buildRange (operandsOf r)) ∧
    (r.extractLsb' 0 3 = 0b101#3 → decodeReq r = .reservedFive (operandsOf r)) ∧
    (r.extractLsb' 0 3 = 0b110#3 → decodeReq r = .reservedSixSeven false (operandsOf r)) ∧
    (r.extractLsb' 0 3 = 0b111#3 → decodeReq r = .reservedSixSeven true (operandsOf r))

/-- R60: where the request ports stand in `REQ`. -/
def Obligations.RequestFieldPositions : Prop :=
  ∀ p : Ports,
    (reqWord p).extractLsb' 0 3 = p.reqOp ∧ (reqWord p).extractLsb' 3 16 = p.reqArg ∧
    (reqWord p).extractLsb' 19 8 = p.reqLen ∧ (reqWord p).extractLsb' 27 72 = p.reqData ∧
    ∀ i, i < 9 → (reqWord p).extractLsb' (27 + 8 * i) 8 = p.reqData.extractLsb' (8 * i) 8

/-- R66: where the fields stand in the packed response word, which holds the register whole. -/
def Obligations.ResponseFieldPositions : Prop :=
  (∀ r : Rsp,
    (packRsp r).getLsbD 0 = r.valid ∧ (packRsp r).extractLsb' 1 3 = r.op ∧ (packRsp r).extractLsb' 4 3 = r.status ∧
    (packRsp r).extractLsb' 7 16 = r.ppm ∧ (packRsp r).extractLsb' 23 8 = r.temp ∧
    (packRsp r).extractLsb' 31 8 = r.cksum ∧
    (∀ i, i < 9 → (packRsp r).extractLsb' (39 + 8 * i) 8 = byteAt r.frame i) ∧ unpackRsp (packRsp r) = r) ∧
  ∀ w : RspWord, packRsp (unpackRsp w) = w

/-- R45: byte `i` of a frame is in lane `i`, and the nine bytes are the whole frame. -/
def Obligations.FrameByteLanes : Prop :=
  (∀ b0 b1 b2 b3 b4 b5 b6 b7 b8 : Byte,
    frameBytes (frameOfBytes b0 b1 b2 b3 b4 b5 b6 b7 b8) = [b0, b1, b2, b3, b4, b5, b6, b7, b8]) ∧
  (∀ f g : Frame, frameBytes f = frameBytes g → f = g) ∧
  (∀ (f : Frame) (i j : Nat), i < 9 → j < 8 → (byteAt f i).getLsbD j = f.getLsbD (8 * i + j)) ∧
  frameOfBytes 0xFF 0x01 0x86 0 0 0 0 0 0x79 = 0x7900000000008601FF

/-- Log 5 (the model's form of R71): a number with a bit above `REQ[98]` is rejected by name; every other is decoded. -/
def Obligations.WiderWordsAreRejected : Prop :=
  ∀ w : Nat, (2 ^ 99 ≤ w → decodeWord w = .error .widerThanRequest) ∧
    (w < 2 ^ 99 → decodeWord w = .ok (decodeReq (BitVec.ofNat 99 w)))

/-- 95_test_vectors.md section 2: words the spec writes out decode to the requests it writes beside them. -/
def Obligations.SpecWordsDecode : Prop :=
  decodeReq 0x2B800000001001C37F8480000 = .decode
    { arg := 0, len := 9, data := frameOfBytes 0xFF 0x86 0x03 0x20 0 0 0 0 0x57 } ∧
  decodeReq 0x2A80000000004300D50000001 = .cksum
    { arg := 0, len := 0, data := frameOfBytes 0xAA 0x01 0x86 0 0 0 0 0 0x55 } ∧
  decodeReq 0x7FFFFFFFFFFFFFFFFFFFFFFFA = .buildRead
    { arg := 0xFFFF, len := 255, data := frameOfBytes 0xFF 0xFF 0xFF 0xFF 0xFF 0xFF 0xFF 0xFF 0xFF } ∧
  decodeReq 0x0000000000000000000003E84 = .buildRange { arg := 2000, len := 0, data := 0 } ∧
  decodeReq 0x2B800000001001C37F8483E87 = .reservedSixSeven true
    { arg := 2000, len := 9, data := frameOfBytes 0xFF 0x86 0x03 0x20 0 0 0 0 0x57 }

/-- R73: the pseudo-instructions. -/
def Obligations.PseudoInstructionsExpand : Prop :=
  expandListing .buildRange2000 = expandListing (.buildRange 2000) ∧
  expandListing .buildRange5000 = expandListing (.buildRange 5000) ∧
  ∀ frame, (Listing.validate frame).wellFormed = true →
    expandListing (.validate frame) = expandListing (.decode frame)

/-- 30_encoding.md section 7 (R72): the request fields of every listing line. -/
def Obligations.ListingFields : Prop :=
  ∀ l : Listing, l.wellFormed = true →
    match l with
    | .decode bytes => opOf (expandListing l) = 0 ∧ (operands (expandListing l)).arg = 0 ∧
        (operands (expandListing l)).len.toNat = bytes.length ∧
        ∀ i, i < 9 → byteAt (operands (expandListing l)).data i = bytes.getD i 0
    | .decodeLen n bytes => opOf (expandListing l) = 0 ∧ (operands (expandListing l)).arg = 0 ∧
        (operands (expandListing l)).len.toNat = n ∧
        ∀ i, i < 9 → byteAt (operands (expandListing l)).data i = bytes.getD i 0
    | .cksum span => opOf (expandListing l) = 1 ∧ (operands (expandListing l)).arg = 0 ∧
        (operands (expandListing l)).len = 0 ∧ byteAt (operands (expandListing l)).data 0 = 0 ∧
        byteAt (operands (expandListing l)).data 8 = 0 ∧
        ∀ i, i < 7 → byteAt (operands (expandListing l)).data (i + 1) = span.getD i 0
    | .buildRead => expandListing l = .buildRead { arg := 0, len := 0, data := 0 }
    | .buildCal => expandListing l = .buildCal { arg := 0, len := 0, data := 0 }
    | .buildRange maxPpm => opOf (expandListing l) = 4 ∧ (operands (expandListing l)).arg.toNat = maxPpm ∧
        (operands (expandListing l)).len = 0 ∧ (operands (expandListing l)).data = 0
    | .rawOp n => (opOf (expandListing l)).toNat = n ∧
        operands (expandListing l) = { arg := 0, len := 0, data := 0 }
    | .buildRange2000 => expandListing l = .buildRange { arg := 2000, len := 0, data := 0 }
    | .buildRange5000 => expandListing l = .buildRange { arg := 5000, len := 0, data := 0 }
    | .validate frame => opOf (expandListing l) = 0 ∧ (operands (expandListing l)).len = 9 ∧
        ∀ i, i < 9 → byteAt (operands (expandListing l)).data i = frame.getD i 0
end

