-- ==== Sys2Proof/Laws/Bytes.lean ====
section
/-! SUPPORT. The small lemmas of packed words, bytes and the checksum: one fact per shared operation, cited by later
proofs. -/

namespace Sys2Proof

/-! ### Bits of the packed words -/

theorem byteAt_getLsbD (f : Frame) (i j : Nat) : (byteAt f i).getLsbD j = (decide (j < 8) && f.getLsbD (8 * i + j)) := by
  simp [byteAt]

/-- The bits of a frame put together from bytes: lane by lane, byte 0 lowest. -/
theorem frameOfBytes_getLsbD (b0 b1 b2 b3 b4 b5 b6 b7 b8 : Byte) (j : Nat) :
    (frameOfBytes b0 b1 b2 b3 b4 b5 b6 b7 b8).getLsbD j =
      if j < 8 then b0.getLsbD j else if j < 16 then b1.getLsbD (j - 8) else if j < 24 then b2.getLsbD (j - 16)
      else if j < 32 then b3.getLsbD (j - 24) else if j < 40 then b4.getLsbD (j - 32)
      else if j < 48 then b5.getLsbD (j - 40) else if j < 56 then b6.getLsbD (j - 48)
      else if j < 64 then b7.getLsbD (j - 56) else b8.getLsbD (j - 64) := by
  refine (BitVec.getLsbD_append (x := b8 ++ b7 ++ b6 ++ b5 ++ b4 ++ b3 ++ b2 ++ b1) (y := b0) (i := j)).trans ?_
  simp only [BitVec.getLsbD_append, Nat.sub_sub]
  exact if_congr (by omega) rfl (if_congr (by omega) rfl (if_congr (by omega) rfl (if_congr (by omega) rfl (if_congr (by omega) rfl (if_congr (by omega) rfl (if_congr (by omega) rfl (if_congr (by omega) rfl rfl)))))))

/-- The bits of a request word: `op`, `arg`, `len`, `data` upwards (R60). -/
theorem packReq_getLsbD (op : Op) (x : Operands) (j : Nat) :
    (packReq op x).getLsbD j =
      if j < 3 then op.getLsbD j else if j < 19 then x.arg.getLsbD (j - 3) else if j < 27 then x.len.getLsbD (j - 19)
      else x.data.getLsbD (j - 27) := by
  refine (BitVec.getLsbD_append (x := x.data ++ x.len ++ x.arg) (y := op) (i := j)).trans ?_
  simp only [BitVec.getLsbD_append, Nat.sub_sub]
  exact if_congr (by omega) rfl (if_congr (by omega) rfl (if_congr (by omega) rfl rfl))

theorem opField_packReq (op : Op) (x : Operands) : opField (packReq op x) = op := by
  apply BitVec.eq_of_getLsbD_eq
  intro j hj
  simp [opField, packReq_getLsbD, hj]

theorem operandsOf_packReq (op : Op) (x : Operands) : operandsOf (packReq op x) = x := by
  have ha : argField (packReq op x) = x.arg := by
    apply BitVec.eq_of_getLsbD_eq
    intro j hj
    have h1 : ¬ 3 + j < 3 := by omega
    have h2 : 3 + j < 19 := by omega
    simp only [argField, BitVec.getLsbD_extractLsb', packReq_getLsbD, h1, h2, hj, if_true, if_false, decide_true,
      Bool.true_and, Nat.add_sub_cancel_left]
  have hl : lenField (packReq op x) = x.len := by
    apply BitVec.eq_of_getLsbD_eq
    intro j hj
    have h1 : ¬ 19 + j < 3 := by omega
    have h2 : ¬ 19 + j < 19 := by omega
    have h3 : 19 + j < 27 := by omega
    simp only [lenField, BitVec.getLsbD_extractLsb', packReq_getLsbD, h1, h2, h3, hj, if_true, if_false, decide_true,
      Bool.true_and, Nat.add_sub_cancel_left]
  have hd : dataField (packReq op x) = x.data := by
    apply BitVec.eq_of_getLsbD_eq
    intro j hj
    have h1 : ¬ 27 + j < 3 := by omega
    have h2 : ¬ 27 + j < 19 := by omega
    have h3 : ¬ 27 + j < 27 := by omega
    simp only [dataField, BitVec.getLsbD_extractLsb', packReq_getLsbD, h1, h2, h3, hj, if_false, decide_true,
      Bool.true_and, Nat.add_sub_cancel_left]
  simp only [operandsOf, ha, hl, hd]

end Sys2Proof

namespace Sys2Proof.Machine

/-- The bits of the packed response word (R66). -/
theorem packRsp_getLsbD (r : Rsp) (j : Nat) :
    (packRsp r).getLsbD j =
      if j < 1 then (decide (j = 0) && r.valid) else if j < 4 then r.op.getLsbD (j - 1)
      else if j < 7 then r.status.getLsbD (j - 4) else if j < 23 then r.ppm.getLsbD (j - 7)
      else if j < 31 then r.temp.getLsbD (j - 23) else if j < 39 then r.cksum.getLsbD (j - 31)
      else r.frame.getLsbD (j - 39) := by
  refine (BitVec.getLsbD_append (x := r.frame ++ r.cksum ++ r.temp ++ r.ppm ++ r.status ++ r.op)
    (y := BitVec.ofBool r.valid) (i := j)).trans ?_
  simp only [BitVec.getLsbD_append, BitVec.getLsbD_ofBool, Nat.sub_sub]
  exact if_congr (by omega) rfl (if_congr (by omega) rfl (if_congr (by omega) rfl (if_congr (by omega) rfl (if_congr (by omega) rfl (if_congr (by omega) rfl rfl)))))

/-! ### The checksum -/

theorem checksumOfSum_toNat (s : Nat) : ((checksumOfSum s).toNat : Int) = (0xFF - (s : Int) + 1) % 256 := by
  unfold checksumOfSum
  rw [BitVec.toNat_ofNat]
  omega

/-- The checksum as a number, from the wrapped sum. -/
theorem checksum_toNat (b1 b2 b3 b4 b5 b6 b7 : Byte) :
    (checksum b1 b2 b3 b4 b5 b6 b7).toNat = (256 - spanSum b1 b2 b3 b4 b5 b6 b7 % 256) % 256 := by
  have h := checksumOfSum_toNat (spanSum b1 b2 b3 b4 b5 b6 b7)
  unfold checksum
  omega

theorem frameChecksum_toNat (f : Frame) : (frameChecksum f).toNat = (256 - frameSum f % 256) % 256 :=
  checksum_toNat ..

theorem lengthOk_iff (len : BitVec 8) : lengthOk len = true ↔ len = 9 := by
  rw [lengthOk, decide_eq_true_iff, Config.frameLen]
  exact Iff.rfl

theorem checksumOk_iff (f : Frame) : checksumOk f = true ↔ frameChecksum f = byteAt f 8 := by
  simp [checksumOk]

end Sys2Proof.Machine
end

