-- ==== Sys2Proof/Laws/PerInstr.lean ====
section
/-! SUPPORT. Statements about every instruction as syntax, one lemma per constructor. -/

namespace Sys2Proof.Laws.OpBits

/-- The low three bits of an instruction's word are its `op` code (R60, R62). -/
def Statement (i : Instr) : Prop := opField (encode i) = opOf i

theorem decode (x : Operands) : Statement (.decode x) := opField_packReq ..
theorem cksum (x : Operands) : Statement (.cksum x) := opField_packReq ..
theorem buildRead (x : Operands) : Statement (.buildRead x) := opField_packReq ..
theorem buildCal (x : Operands) : Statement (.buildCal x) := opField_packReq ..
theorem buildRange (x : Operands) : Statement (.buildRange x) := opField_packReq ..
theorem reservedFive (x : Operands) : Statement (.reservedFive x) := opField_packReq ..
theorem reservedSixSeven (low : Bool) (x : Operands) : Statement (.reservedSixSeven low x) := opField_packReq ..

end Sys2Proof.Laws.OpBits
end

