-- ==== Sys2Proof/Laws/State.lean ====
section
/-! SUPPORT. One lemma per field per update of the state (all by rfl), so that no later proof unfolds a record update. -/

namespace Sys2Proof.Machine

@[simp] theorem Rsp.reset_valid : Rsp.reset.valid = false := rfl
@[simp] theorem Rsp.reset_op : Rsp.reset.op = 0 := rfl
@[simp] theorem Rsp.reset_status : Rsp.reset.status = 0 := rfl
@[simp] theorem Rsp.reset_ppm : Rsp.reset.ppm = 0 := rfl
@[simp] theorem Rsp.reset_temp : Rsp.reset.temp = 0 := rfl
@[simp] theorem Rsp.reset_cksum : Rsp.reset.cksum = 0 := rfl
@[simp] theorem Rsp.reset_frame : Rsp.reset.frame = 0 := rfl

@[simp] theorem State.reset_rsp : State.reset.rsp = Rsp.reset := rfl
@[simp] theorem State.reset_drive : State.reset.drive = [] := rfl
@[simp] theorem State.reset_edge : State.reset.edge = 0 := rfl

@[simp] theorem responseOf_valid (op : Op) (p : Payload) : (responseOf op p).valid = true := rfl
@[simp] theorem responseOf_op (op : Op) (p : Payload) : (responseOf op p).op = op := rfl
@[simp] theorem responseOf_status (op : Op) (p : Payload) : (responseOf op p).status = p.status := rfl
@[simp] theorem responseOf_ppm (op : Op) (p : Payload) : (responseOf op p).ppm = p.ppm := rfl
@[simp] theorem responseOf_temp (op : Op) (p : Payload) : (responseOf op p).temp = p.temp := rfl
@[simp] theorem responseOf_cksum (op : Op) (p : Payload) : (responseOf op p).cksum = p.cksum := rfl
@[simp] theorem responseOf_frame (op : Op) (p : Payload) : (responseOf op p).frame = p.frame := rfl
@[simp] theorem payloadOf_responseOf (op : Op) (p : Payload) : payloadOf (responseOf op p) = p := rfl

@[simp] theorem respond_rsp (s : State) (op : Op) (p : Payload) : (respond s op p).rsp = responseOf op p := rfl
@[simp] theorem respond_drive (s : State) (op : Op) (p : Payload) : (respond s op p).drive = s.drive := rfl
@[simp] theorem respond_edge (s : State) (op : Op) (p : Payload) : (respond s op p).edge = s.edge := rfl

@[simp] theorem clearRsp_rsp (s : State) : (clearRsp s).rsp = Rsp.reset := rfl
@[simp] theorem clearRsp_drive (s : State) : (clearRsp s).drive = s.drive := rfl
@[simp] theorem clearRsp_edge (s : State) : (clearRsp s).edge = s.edge := rfl

@[simp] theorem dropValid_rsp (s : State) : (dropValid s).rsp = { s.rsp with valid := false } := rfl
@[simp] theorem dropValid_drive (s : State) : (dropValid s).drive = s.drive := rfl
@[simp] theorem dropValid_edge (s : State) : (dropValid s).edge = s.edge := rfl

@[simp] theorem loopedWrite_rsp (s : State) : (loopedWrite s).rsp = Config.loopedRsp s.edge := rfl
@[simp] theorem loopedWrite_drive (s : State) : (loopedWrite s).drive = s.drive := rfl
@[simp] theorem loopedWrite_edge (s : State) : (loopedWrite s).edge = s.edge := rfl

@[simp] theorem tick_rsp (s : State) : (tick s).rsp = s.rsp := rfl
@[simp] theorem tick_drive (s : State) : (tick s).drive = s.drive.tail := rfl
@[simp] theorem tick_edge (s : State) : (tick s).edge = s.edge + 1 := rfl

@[simp] theorem portsNow_cons (r : Rsp) (p : Ports) (ps : List Ports) (n : Nat) :
    portsNow { rsp := r, drive := p :: ps, edge := n } = p := rfl

@[simp] theorem withFetchWord_rsp (s : State) (nbits w : Nat) : (s.withFetchWord nbits w).rsp = s.rsp := rfl
@[simp] theorem withFetchWord_edge (s : State) (nbits w : Nat) : (s.withFetchWord nbits w).edge = s.edge := rfl
@[simp] theorem withFetchWord_ports (s : State) (nbits w : Nat) :
    portsNow (s.withFetchWord nbits w) = presentReq (BitVec.ofNat 99 (w % 2 ^ nbits)) := rfl

end Sys2Proof.Machine
end

