-- ==== Sys2Proof/Laws/Step.lean ====
section
/-! SUPPORT. What each shared operation of the clock edge can do, said once: the arms of `exec`, the events of an edge,
and the cases of a step. -/

namespace Sys2Proof.Machine

/-- Every arm of `exec` is the accepting write of its request's response. -/
theorem exec_eq_respond (i : Instr) (s : State) : exec i s = .next (respond s (opOf i) (execute i)) := by
  cases i <;> rfl

theorem edgeEvent_looped_iff (s : State) : edgeEvent s = .looped ↔ (portsNow s).rspReady = .fromReqReady := by
  unfold edgeEvent
  cases h : (portsNow s).rspReady with
  | fromReqReady => simp
  | fixed level => simp only [reduceCtorEq, iff_false]; split_ifs <;> simp

/-- The event of an edge at which `rsp_ready` is fixed, in the order of precedence of R27. -/
theorem edgeEvent_fixed (s : State) (level : Bool) (h : (portsNow s).rspReady = .fixed level) :
    edgeEvent s =
      if (portsNow s).rst = true then .reset
      else if (portsNow s).reqValid = true ∧ (s.rsp.valid = false ∨ level = true) then .accept
      else if s.rsp.valid = true ∧ level = true then .consume
      else .hold := by
  unfold edgeEvent readyLevel consumeLevel
  rw [h]
  cases (portsNow s).rst <;> cases (portsNow s).reqValid <;> cases s.rsp.valid <;> cases level <;> rfl

/-- What is accepted at an edge at which `rsp_ready` is fixed (R26). -/
theorem acceptedAt_fixed (s : State) (level : Bool) (h : (portsNow s).rspReady = .fixed level) :
    acceptedAt s =
      if (portsNow s).rst = false ∧ (portsNow s).reqValid = true ∧ (s.rsp.valid = false ∨ level = true) then [fetch s]
      else [] := by
  unfold acceptedAt
  rw [edgeEvent_fixed s level h]
  cases (portsNow s).rst <;> cases (portsNow s).reqValid <;> cases s.rsp.valid <;> cases level <;> simp

/-- What is consumed at an edge at which `rsp_ready` is fixed (R26). -/
theorem consumedAt_fixed (s : State) (level : Bool) (h : (portsNow s).rspReady = .fixed level) :
    consumedAt s = if s.rsp.valid = true ∧ level = true ∧ (portsNow s).rst = false then [s.rsp] else [] := by
  unfold consumedAt consumeLevel
  rw [h]
  cases (portsNow s).rst <;> cases s.rsp.valid <;> cases level <;> simp

/-- At an edge at which `rsp_ready` is fixed, something is accepted exactly when the edge's event is `accept`. -/
theorem acceptedAt_fixed_eq_singleton_iff (s : State) (level : Bool) (h : (portsNow s).rspReady = .fixed level)
    (i : Instr) : acceptedAt s = [i] ↔ edgeEvent s = .accept ∧ fetch s = i := by
  have hl : edgeEvent s ≠ .looped := fun e => by simp [(edgeEvent_looped_iff s).1 e] at h
  unfold acceptedAt
  cases he : edgeEvent s <;> simp_all

/-- The state an edge leads to, by its event: a step always answers next. -/
def edgeResult (s : State) : State :=
  match edgeEvent s with
  | .looped => tick (loopedWrite s)
  | .reset => tick (clearRsp s)
  | .accept => respond (tick s) (opOf (fetch s)) (execute (fetch s))
  | .consume => tick (dropValid s)
  | .hold => tick s

theorem step_eq (s : State) : step s = .next (edgeResult s) := by
  unfold step edgeResult
  cases edgeEvent s <;> simp [exec_eq_respond]

/-- The inversion of a step: which edge it was, and the register it leaves. -/
theorem step_cases {s t : State} (h : step s = .next t) :
    t.drive = s.drive.tail ∧ t.edge = s.edge + 1 ∧
    ((edgeEvent s = .looped ∧ t.rsp = Config.loopedRsp s.edge) ∨ (edgeEvent s = .reset ∧ t.rsp = Rsp.reset) ∨
      (edgeEvent s = .accept ∧ t.rsp = responseTo (fetch s)) ∨
      (edgeEvent s = .consume ∧ t.rsp = { s.rsp with valid := false }) ∨ (edgeEvent s = .hold ∧ t.rsp = s.rsp)) := by
  rw [step_eq] at h
  cases h
  unfold edgeResult
  cases edgeEvent s <;> simp [responseTo]

@[simp] theorem stateAfter_zero (s : State) : stateAfter 0 s = s := rfl
@[simp] theorem stateAfter_succ (k : Nat) (s : State) : stateAfter (k + 1) s = stateAfter k (edgeResult s) := by
  rw [stateAfter, step_eq]
@[simp] theorem acceptedOver_zero (s : State) : acceptedOver 0 s = [] := rfl
@[simp] theorem acceptedOver_succ (k : Nat) (s : State) :
    acceptedOver (k + 1) s = acceptedAt s ++ acceptedOver k (edgeResult s) := by
  rw [acceptedOver, step_eq]
@[simp] theorem consumedOver_zero (s : State) : consumedOver 0 s = [] := rfl
@[simp] theorem consumedOver_succ (k : Nat) (s : State) :
    consumedOver (k + 1) s = consumedAt s ++ consumedOver k (edgeResult s) := by
  rw [consumedOver, step_eq]

theorem edgeResult_drive (s : State) : (edgeResult s).drive = s.drive.tail := (step_cases (step_eq s)).1
theorem edgeResult_edge (s : State) : (edgeResult s).edge = s.edge + 1 := (step_cases (step_eq s)).2.1

theorem portsNow_edgeResult (s : State) : portsNow (edgeResult s) = portsNow (tick s) := by
  unfold portsNow
  rw [edgeResult_drive, edgeResult_edge]
  rfl

/-- What the host drives does not depend on the register. -/
theorem portsOver_congr (k : Nat) {s t : State} (hd : s.drive = t.drive) (he : s.edge = t.edge) :
    portsOver k s = portsOver k t := by
  induction k generalizing s t with
  | zero => rfl
  | succ k ih =>
    simp only [portsOver]
    rw [ih (s := tick s) (t := tick t) (by simp [hd]) (by simp [he])]
    simp [portsNow, hd, he]

theorem portsOver_edgeResult (k : Nat) (s : State) : portsOver k (edgeResult s) = portsOver k (tick s) :=
  portsOver_congr k (edgeResult_drive s) (edgeResult_edge s)

end Sys2Proof.Machine
end

