-- ==== Sys2Proof/Tests/Slice0.lean ====
section
/-! SUPPORT. The model's own tests: the well-formedness smoke test, the decoding of words the spec writes out, one-step
tests whose expected words are those of 95_test_vectors.md, and a witness for the hypotheses of every statement. -/

open Sys2Proof Sys2Proof.Machine

namespace Sys2Proof.Tests

/-! ### Helpers -/

/-- The ports of a cycle. -/
def ports (rst reqValid : Bool) (r : Req) (ready : Bool) : Ports :=
  { presentReq r with rst := rst, reqValid := reqValid, rspReady := .fixed ready }

/-- A state with the given packed response word and drives. -/
def stateOf (rsp : RspWord) (drive : List Ports) : State := { rsp := unpackRsp rsp, drive := drive, edge := 0 }

/-- The packed response word after one edge, if the step answers next. -/
def rspAfter (s : State) : Option RspWord :=
  match step s with
  | .next t => some (packRsp t.rsp)
  | .fault _ => none
  | .refused _ => none

/-- The packed response word after the edge that accepts a request word in the reset state. -/
def answer (w : Nat) : Option RspWord := rspAfter (State.reset.withFetchWord 99 w)

/-- The 800 ppm frame of scenario S5. -/
def frame800 : Frame := frameOfBytes 0xFF 0x86 0x03 0x20 0 0 0 0 0x57

/-- The request word of `DECODE` of that frame (95_test_vectors.md 2.3). -/
def req800 : Req := 0x2B800000001001C37F8480000

/-- The response to it, held. -/
def rsp800 : RspWord := 0x0000000000000000002B80019001

/-! ### Well-formedness: each check refuses an ill-formed term -/

theorem test_wellFormed_refuses_ten_bytes : (Listing.decode (List.replicate 10 0)).wellFormed = false := by decide
theorem test_wellFormed_refuses_len_256 : (Listing.decodeLen 256 (List.replicate 9 0)).wellFormed = false := by decide
theorem test_wellFormed_refuses_bytes_unlike_len : (Listing.decodeLen 4 [0xFF, 0x86]).wellFormed = false := by decide
theorem test_wellFormed_refuses_six_span_bytes : (Listing.cksum (List.replicate 6 0)).wellFormed = false := by decide
theorem test_wellFormed_refuses_range_65536 : (Listing.buildRange 65536).wellFormed = false := by decide
theorem test_wellFormed_refuses_op_8 : (Listing.rawOp 8).wellFormed = false := by decide
theorem test_wellFormed_refuses_validate_of_eight : (Listing.validate (List.replicate 8 0)).wellFormed = false := by decide
theorem test_wellFormed_refuses_status_5 : (ResponseListing.wellFormed { status := 5 }) = false := by decide
theorem test_wellFormed_refuses_response_frame_of_eight :
    (ResponseListing.wellFormed { status := 0, frame := some (List.replicate 8 0) }) = false := by decide
theorem test_fitsRequest_refuses_100_bits : fitsRequest (2 ^ 99) = false := by decide
theorem test_wellFormed_accepts_S5 :
    (Listing.validate [0xFF, 0x86, 0x03, 0x20, 0, 0, 0, 0, 0x57]).wellFormed = true := by decide

/-! ### Decoding of words the spec writes out (95_test_vectors.md 2.2 to 2.5) -/

theorem test_decode_word_decode : decodeTableWord 99 0x568000001E4800C37F8480000 =
    some (.decode { arg := 0, len := 9, data := frameOfBytes 0xFF 0x86 0x01 0x90 0x3C 0 0 0 0xAD }) := by decide
theorem test_decode_word_cksum : decodeTableWord 99 0x2A80000000004300D50000001 =
    some (.cksum { arg := 0, len := 0, data := frameOfBytes 0xAA 0x01 0x86 0 0 0 0 0 0x55 }) := by decide
theorem test_decode_word_buildRead : decodeTableWord 104 0x7FFFFFFFFFFFFFFFFFFFFFFFA =
    some (.buildRead { arg := 0xFFFF, len := 255, data := 0xFFFFFFFFFFFFFFFFFF }) := by decide
theorem test_decode_word_buildCal : decodeTableWord 8 3 = some (.buildCal { arg := 0, len := 0, data := 0 }) := by decide
theorem test_decode_word_buildRange : decodeTableWord 99 0x1387C =
    some (.buildRange { arg := 9999, len := 0, data := 0 }) := by decide
theorem test_decode_word_reservedFive : decodeTableWord 8 5 = some (.reservedFive { arg := 0, len := 0, data := 0 }) := by
  decide
theorem test_decode_word_reservedSix :
    decodeTableWord 8 6 = some (.reservedSixSeven false { arg := 0, len := 0, data := 0 }) := by decide
theorem test_decode_word_reservedSeven : decodeTableWord 99 0x2B800000001001C37F8483E87 =
    some (.reservedSixSeven true { arg := 2000, len := 9, data := frame800 }) := by decide
theorem test_decode_word_too_wide : decodeTableWord 104 (2 ^ 99) = none := by decide

/-! ### One accepted request: `REQ` and `RSP` words of 95_test_vectors.md section 2 -/

theorem test_decode_reading : answer 0x568000001E4800C37F8480000 = some 0x000000000000000000569E00C801 := by decide
theorem test_decode_mismatch : answer 0x2B808000001001C37F8480000 = some 0x0000000000000000002B00000021 := by decide
theorem test_cksum_ignores_ends : answer 0x2A80000000004300D50000001 = some 0x0000000000000000003C80000003 := by decide
theorem test_cksum_largest_sum : answer 0x007FFFFFFFFFFFFF800000001 = some 0x0000000000000000000380000003 := by decide
theorem test_buildRead_ignored_fields : answer 0x7FFFFFFFFFFFFFFFFFFFFFFFA = some 0x3C80000000004300FFBC80000005 := by
  decide
theorem test_buildCal : answer 0x0000000000000000000000003 = some 0x3C00000000004380FFBC00000007 := by decide
theorem test_buildRange_5000 : answer 0x0000000000000000000009C44 = some 0x65C4098000004C80FFE580000009 := by decide
theorem test_buildRange_low_byte_alone : answer 0x0000000000000000000000684 = some 0x39 := by decide
theorem test_reservedFive : answer 0x0000000000000000000000005 = some 0x4B := by decide
theorem test_reservedSix : answer 0x0000000000000000000000006 = some 0x4D := by decide
theorem test_reservedSeven_ignores_operands : answer 0x2B800000001001C37F8483E87 = some 0x4F := by decide

/-- `DECODE len=10` of a frame whose first nine bytes are valid (2.3). -/
theorem test_execute_ten_bytes : (execute (decodeReq 0x2B800000001001C37F8500000)).status = 1 := by decide

/-- The table of 2.1: an exact wrap to 0, and a compensating error. -/
theorem test_checksum_wraps_to_zero : checksum 0x80 0x80 0 0 0 0 0 = 0x00 := by decide
theorem test_checksum_compensating : checksum 0x86 0x01 0x91 0x3B 0 0 0 = 0xAD := by decide

/-- A response listing (R72) stands for the response of S5. -/
theorem test_response_listing :
    expandResponse { status := 0, ppm := some 800, cksum := some 0x57 } = payloadOf (unpackRsp rsp800) := by decide

/-- Two listing lines of Program 1 and their words (95_test_vectors.md section 3). -/
theorem test_listing_decodeLen :
    encode (expandListing (.decodeLen 4 [0xFF, 0x86, 0x03, 0x20])) = 0x00000000001001C37F8200000 := by decide
theorem test_listing_cksum :
    encode (expandListing (.cksum [0x86, 0x01, 0x90, 0x3C, 0, 0, 0])) = 0x000000001E4800C3000000001 := by decide

/-! ### The clock edge: the vectors of 95_test_vectors.md 2.6 -/

theorem test_edge_accept_when_empty :
    reqReady (stateOf 0 [ports false true 2 false]) = true ∧
      rspAfter (stateOf 0 [ports false true 2 false]) = some 0x3C80000000004300FFBC80000005 := by decide
theorem test_edge_back_pressure :
    reqReady (stateOf rsp800 [ports false true 2 false]) = false ∧
      rspAfter (stateOf rsp800 [ports false true 2 false]) = some rsp800 := by decide
theorem test_edge_consume_and_accept :
    consumedAt (stateOf rsp800 [ports false true 2 true]) = [unpackRsp rsp800] ∧
      rspAfter (stateOf rsp800 [ports false true 2 true]) = some 0x3C80000000004300FFBC80000005 := by decide
theorem test_edge_consume_keeps_fields :
    rspAfter (stateOf rsp800 [ports false false 2 true]) = some 0x0000000000000000002B80019000 := by decide
theorem test_edge_idle : rspAfter (stateOf 0x4E [ports false false 2 true]) = some 0x4E := by decide
theorem test_edge_reset_beats_accept :
    reqReady (stateOf rsp800 [ports true true 2 true]) = false ∧
      rspAfter (stateOf rsp800 [ports true true 2 true]) = some 0 := by decide

/-! ### Witnesses: for every statement with hypotheses, a state and operands that meet them together -/

/-- A held response and a request the host presents at a reset edge, then at an edge without reset. -/
def resetRun : State := stateOf rsp800 [ports true true 1 true, ports false true 1 true]

/-- A held response, two edges at which the host presents a request without taking the response, then takes it. -/
def heldRun : State := stateOf rsp800 [ports false true 2 false, ports false true 3 false, ports false true 3 true]

/-- A held response, and two edges at which the host presents a request and takes the response. -/
def fullRun : State := stateOf rsp800 [ports false true 2 true, ports false true 1 true]

/-- The host closes the loop. -/
def loopRun : State := { fullRun with drive := [{ ports false true 2 true with rspReady := .fromReqReady }] }

theorem witness_ResetEdgeClearsResponse :
    (portsNow resetRun).rspReady = .fixed true ∧ (portsNow resetRun).rst = true ∧
      (portsNow (edgeResult resetRun)).rspReady = .fixed true ∧ (portsNow (edgeResult resetRun)).rst = false ∧
      (portsNow (edgeResult resetRun)).reqValid = true := by decide
theorem witness_ResetValuesAndOutputs :
    (stateOf 0 [ports false true 2 false]).rsp = State.reset.rsp ∧
      (portsNow (stateOf 0 [ports false true 2 false])).rspReady = .fixed false := by decide
theorem witness_ResetDropsHeldResponse :
    (portsNow resetRun).rspReady = .fixed true ∧ (portsNow resetRun).rst = true ∧ resetRun.rsp.valid = true ∧
      ∀ p ∈ portsOver 1 (edgeResult resetRun), p.noLoop := by decide
theorem witness_AfterFirstResetResponseIsLegal :
    (portsNow resetRun).rst = true ∧ ∀ p ∈ portsOver (1 + 1) resetRun, p.noLoop := by decide
theorem witness_HandshakeSignals : (portsNow heldRun).rspReady = .fixed false := by decide
theorem witness_StepRunsAcceptedRequest :
    (portsNow fullRun).rspReady = .fixed true ∧ (portsNow fullRun).rst = false ∧ (portsNow fullRun).reqValid = true ∧
      (fullRun.rsp.valid = false ∨ true = true) := by decide
theorem witness_ClockEdge_reset : (portsNow resetRun).rspReady = .fixed true ∧ (portsNow resetRun).rst = true := by
  decide
theorem witness_ClockEdge_accept :
    (portsNow fullRun).rspReady = .fixed true ∧ (portsNow fullRun).rst = false ∧ (portsNow fullRun).reqValid = true ∧
      fullRun.rsp.valid = true := by decide
theorem witness_ClockEdge_consume :
    (portsNow (stateOf rsp800 [ports false false 2 true])).rspReady = .fixed true ∧
      (portsNow (stateOf rsp800 [ports false false 2 true])).reqValid = false ∧
      (stateOf rsp800 [ports false false 2 true]).rsp.valid = true := by decide
theorem witness_ClockEdge_hold :
    (portsNow heldRun).rspReady = .fixed false ∧ (portsNow heldRun).rst = false ∧ heldRun.rsp.valid = true := by decide
theorem witness_LoopedEdgeIsUnspecified : (portsNow loopRun).rspReady = .fromReqReady := by decide
theorem witness_UnacceptedRequestLeavesNoTrace :
    ∃ s s' : State, s ≠ s' ∧ s.rsp = s'.rsp ∧ s.drive.tail = s'.drive.tail ∧ s.edge = s'.edge ∧
      (portsNow s).rst = (portsNow s').rst ∧ (portsNow s).rspReady = (portsNow s').rspReady ∧ acceptedAt s = [] ∧
      acceptedAt s' = [] :=
  ⟨stateOf rsp800 [ports false true 2 false], stateOf rsp800 [ports false false req800 false], by decide⟩
theorem witness_ConsumedResponseStaysOnOutputs :
    (portsNow (stateOf rsp800 [ports false false 2 true])).rspReady = .fixed true ∧
      (portsNow (stateOf rsp800 [ports false false 2 true])).rst = false ∧
      (portsNow (stateOf rsp800 [ports false false 2 true])).reqValid = false ∧
      (stateOf rsp800 [ports false false 2 true]).rsp.valid = true := by decide
theorem witness_AcceptedResponseIsOnOutputs :
    (portsNow (stateOf 0 [ports false true 3 false])).rspReady = .fixed false ∧
    acceptedAt (stateOf 0 [ports false true 3 false]) = [.buildCal { arg := 0, len := 0, data := 0 }] := by decide
theorem witness_StatusWritten_accept : acceptedAt fullRun = [.buildRead { arg := 0, len := 0, data := 0 }] := by decide
theorem witness_StatusWritten_neither : (portsNow heldRun).rst = false ∧ acceptedAt heldRun = [] := by decide
theorem witness_UntakenResponseIsHeld :
    heldRun.rsp.valid = true ∧ ∀ p ∈ portsOver 2 heldRun, p.rst = false ∧ p.rspReady = .fixed false := by decide
theorem witness_FullThroughputWhenReady :
    ∀ p ∈ portsOver 2 fullRun, p.rst = false ∧ p.reqValid = true ∧ p.rspReady = .fixed true := by decide
theorem witness_ResponsesLeaveInAcceptanceOrder : ∀ p ∈ portsOver 2 resetRun, p.noLoop := by decide
theorem witness_NoResponseLostOrDuplicated : ∀ p ∈ portsOver 3 heldRun, p.noLoop ∧ p.rst = false := by decide
theorem witness_ResultIndependentOfEarlierRequests :
    ∃ s s' : State, s.rsp ≠ s'.rsp ∧ (portsNow s).rspReady = .fixed true ∧ (portsNow s').rspReady = .fixed true ∧
      acceptedAt s ≠ [] ∧ acceptedAt s = acceptedAt s' :=
  ⟨stateOf 0 [ports false true req800 true], stateOf 0x4B [ports false true req800 true], by decide⟩
theorem witness_legalRsp_reading : LegalRsp (unpackRsp rsp800) := by constructor <;> decide
theorem witness_EveryEdgeKeepsResponseLegal :
    ∃ s t : State, (portsNow s).noLoop ∧ LegalRsp s.rsp ∧ step s = .next t :=
  ⟨fullRun, _, by decide, witness_legalRsp_reading, step_eq fullRun⟩
theorem witness_OperationFrame_notDecode :
    (∃ t, exec (.cksum default) State.reset = .next t) ∧ ∀ x, Instr.cksum default ≠ .decode x :=
  ⟨⟨_, rfl⟩, fun _ => by simp⟩
theorem witness_OperationFrame_notBuilder :
    ∀ x, Instr.cksum default ≠ .buildRead x ∧ Instr.cksum default ≠ .buildCal x ∧ Instr.cksum default ≠ .buildRange x :=
  fun _ => by simp

/-- The operands of S5, of its corrupted form, of a short read, and the unsupported ranges beside the supported. -/
def opsGood : Operands := { arg := 0, len := 9, data := frame800 }
def opsBad : Operands := { arg := 0, len := 9, data := frameOfBytes 0xFF 0x86 0x03 0x20 0 0 0 0 0x56 }
def opsShort : Operands := { arg := 1999, len := 8, data := frame800 }
def opsLong : Operands := { arg := 5001, len := 10, data := frame800 }

theorem witness_DecodeOutcomes_match : opsGood.len = 9 ∧ frameChecksum opsGood.data = byteAt opsGood.data 8 := by decide
theorem witness_DecodeOutcomes_mismatch : opsBad.len = 9 ∧ frameChecksum opsBad.data ≠ byteAt opsBad.data 8 := by decide
theorem witness_DecodeShortRead_short : opsShort.len ≠ 9 := by decide
theorem witness_DecodeShortRead_long : opsLong.len ≠ 9 := by decide
theorem witness_DecodePpmIsBigEndian : (execute (.decode opsGood)).status = 0 := by decide
theorem witness_UnwrittenFields_range : opsShort.arg ≠ 2000 ∧ opsShort.arg ≠ 5000 ∧ opsLong.arg ≠ 2000 ∧
    opsLong.arg ≠ 5000 := by decide
theorem witness_IgnoredFields_decode_and_cksum :
    ∃ x y : Operands, x ≠ y ∧ x.len = y.len ∧ x.len = 9 ∧
      ∀ i ∈ List.range 9, 1 ≤ i → byteAt x.data i = byteAt y.data i :=
  ⟨opsGood, { opsGood with arg := 7, data := frameOfBytes 0 0x86 0x03 0x20 0 0 0 0 0x57 }, by decide⟩
theorem witness_IgnoredFields_range : ∃ x y : Operands, x ≠ y ∧ x.arg = y.arg :=
  ⟨opsGood, opsBad, by decide⟩
theorem witness_ErrorCodes_four :
    (execute (.decode opsShort)).status = 1 ∧ (execute (.decode opsBad)).status = 2 ∧
      (execute (.buildRange opsShort)).status = 3 ∧ (execute (.reservedFive opsGood)).status = 4 := by decide
theorem witness_ChecksumEquivalentForms_zero : spanSum 0x80 0x80 0 0 0 0 0 = 256 := by decide
theorem witness_ChecksumEquivalentForms_nonzero : spanSum 0xFF 0xFF 0xFF 0xFF 0xFF 0xFF 0xFF = 1785 := by decide
theorem witness_ChecksumRange_sums :
    spanSum 0 0 0 0 0 0 0 = 0 ∧ spanSum 1 0 0 0 0 0 0 = 1 ∧ spanSum 0xFF 0 0 0 0 0 0 = 255 := by decide
theorem witness_ChecksumDetection_oneByte :
    (∀ j ∈ List.range 9, j ≠ 8 → byteAt frame800 j = byteAt opsBad.data j) ∧ byteAt frame800 8 ≠ byteAt opsBad.data 8 ∧
      frameChecksum frame800 = byteAt frame800 8 := by decide
theorem witness_ChecksumDetection_byteOne :
    ∃ f g : Frame, (∀ j ∈ List.range 9, j ≠ 1 → byteAt f j = byteAt g j) ∧ byteAt f 1 ≠ byteAt g 1 ∧
      frameChecksum f = byteAt f 8 :=
  ⟨frame800, frameOfBytes 0xFF 0x87 0x03 0x20 0 0 0 0 0x57, by decide⟩
theorem witness_ChecksumDetection_byteZero :
    ∃ f g : Frame, f ≠ g ∧ ∀ j ∈ List.range 9, 1 ≤ j → byteAt f j = byteAt g j :=
  ⟨frame800, frameOfBytes 0 0x86 0x03 0x20 0 0 0 0 0x57, by decide⟩
theorem witness_ChecksumDetection_compensating :
    ∃ f g : Frame, f ≠ g ∧ byteAt f 8 = byteAt g 8 ∧ frameSum f % 256 = frameSum g % 256 ∧
      (frameSum f + (byteAt f 8).toNat) % 256 = (frameSum g + (byteAt g 8).toNat) % 256 :=
  ⟨frame800, frameOfBytes 0xFF 0x86 0x04 0x1F 0 0 0 0 0x57, by decide⟩
theorem witness_ChecksumDetection_reordered :
    ∃ f g : Frame, f ≠ g ∧ byteAt f 8 = byteAt g 8 ∧ ((frameBytes f).extract 1 8).Perm ((frameBytes g).extract 1 8) :=
  ⟨frame800, frameOfBytes 0xFF 0x86 0x20 0x03 0 0 0 0 0x57, by decide⟩
theorem witness_DecodeUncheckedBytes_byteZero :
    ∃ x y : Operands, x ≠ y ∧ x.len = y.len ∧ ∀ j ∈ List.range 9, 1 ≤ j → byteAt x.data j = byteAt y.data j :=
  ⟨opsGood, { opsGood with data := frameOfBytes 0 0x86 0x03 0x20 0 0 0 0 0x57 }, by decide⟩
theorem witness_DecodeUncheckedBytes_otherBytes :
    ∃ x y : Operands, x ≠ y ∧ x.len = y.len ∧ byteAt x.data 2 = byteAt y.data 2 ∧ byteAt x.data 3 = byteAt y.data 3 ∧
      byteAt x.data 4 = byteAt y.data 4 ∧ byteAt x.data 8 = byteAt y.data 8 ∧ frameChecksum x.data = frameChecksum y.data :=
  ⟨opsGood, { opsGood with data := frameOfBytes 0xFF 0x85 0x03 0x20 0 0 0 1 0x57 }, by decide⟩
theorem witness_SaturatedCount : (10 : Nat) ≠ 9 ∧ (256 : Nat) ≠ 9 ∧ opsShort.arg.toNat ≠ 2000 ∧ opsShort.arg.toNat ≠ 5000 := by
  decide
theorem witness_BuildRange_clauses :
    (2000#16).toNat = 2000 ∧ (5000#16).toNat = 5000 ∧ (2001#16).toNat ≠ 2000 ∧ (2001#16).toNat ≠ 5000 := by decide
theorem witness_BuildRangeRefinesSourceCodec : (65535 : Nat) < 65536 := by decide
theorem witness_BuiltFramesMeetFormat :
    Instr.buildRange { opsGood with arg := 5000 } ∈
      [Instr.buildRead { opsGood with arg := 5000 }, .buildCal { opsGood with arg := 5000 },
        .buildRange { opsGood with arg := 5000 }] ∧
    (execute (.buildRange { opsGood with arg := 5000 })).status = 0 := by decide
theorem witness_OpMap_all : ∀ n ∈ List.range 8, ((BitVec.ofNat 99 n).extractLsb' 0 3).toNat = n := by decide
theorem witness_WiderWords : 2 ^ 99 ≤ 2 ^ 99 ∧ 2 ^ 99 - 1 < 2 ^ 99 := by decide
theorem witness_FrameByteLanes : (8 : Nat) < 9 ∧ (7 : Nat) < 8 := by decide
theorem witness_PseudoInstructionsExpand : (Listing.validate (List.replicate 9 0)).wellFormed = true := by decide
theorem witness_ListingFields :
    ∀ l ∈ [Listing.decode (List.replicate 9 0), .decodeLen 255 (List.replicate 9 0), .cksum (List.replicate 7 0),
      .buildRead, .buildCal, .buildRange 65535, .rawOp 7, .buildRange2000, .buildRange5000,
      .validate (List.replicate 9 0)], l.wellFormed = true := by decide

end Sys2Proof.Tests
end

/-! ### The register after an edge, by its event (R24, R27) -/

namespace Sys2Proof.Machine

theorem edgeEvent_fixed_ne_looped (s : State) (level : Bool) (h : (portsNow s).rspReady = .fixed level) :
    edgeEvent s ≠ .looped := by
  simp [Ne, edgeEvent_looped_iff, h]

/-- Reset comes first in the precedence of R27. -/
theorem edgeEvent_fixed_eq_reset_iff (s : State) (level : Bool) (h : (portsNow s).rspReady = .fixed level) :
    edgeEvent s = .reset ↔ (portsNow s).rst = true := by
  rw [edgeEvent_fixed s level h]
  split_ifs <;> simp_all

theorem mem_acceptedAt_fixed_iff (s : State) (level : Bool) (h : (portsNow s).rspReady = .fixed level) (i : Instr) :
    i ∈ acceptedAt s ↔ edgeEvent s = .accept ∧ fetch s = i := by
  unfold acceptedAt
  cases he : edgeEvent s with
  | looped => exact absurd he (edgeEvent_fixed_ne_looped s level h)
  | accept => simp [eq_comm]
  | reset => simp
  | consume => simp
  | hold => simp

theorem edgeResult_rsp_of_reset {s : State} (he : edgeEvent s = .reset) : (edgeResult s).rsp = Rsp.reset := by
  simp [edgeResult, he]

theorem edgeResult_rsp_of_accept {s : State} (he : edgeEvent s = .accept) :
    (edgeResult s).rsp = responseTo (fetch s) := by
  simp [edgeResult, he, responseTo]

/-- The edges left over, consuming and holding ones, write no field of `RSP` but `valid` (R147). -/
theorem edgeResult_rsp_status_of_unwritten {s : State} (hl : edgeEvent s ≠ .looped) (hr : edgeEvent s ≠ .reset)
    (ha : edgeEvent s ≠ .accept) : (edgeResult s).rsp.status = s.rsp.status := by
  unfold edgeResult
  cases he : edgeEvent s with
  | looped => exact absurd he hl
  | reset => exact absurd he hr
  | accept => exact absurd he ha
  | consume => simp
  | hold => simp

/-- Settles O13: the event of the edge decides which of the three writes of `RSP.status` happens. -/
theorem statusWrittenAtAcceptAndReset : Obligations.StatusWrittenAtAcceptAndReset := by
  intro s level h
  have hreset := edgeEvent_fixed_eq_reset_iff s level h
  have haccept := mem_acceptedAt_fixed_iff s level h
  refine ⟨edgeResult s, step_eq s, fun hrst => ?_, fun i hi => ?_, fun hrst hnone => ?_⟩
  · simp [edgeResult_rsp_of_reset (hreset.2 hrst)]
  · obtain ⟨he, rfl⟩ := (haccept i).1 hi
    simp [edgeResult_rsp_of_accept he, responseTo]
  · have hr : edgeEvent s ≠ .reset := fun he => by simp [hreset.1 he] at hrst
    have ha : edgeEvent s ≠ .accept := fun he => by simpa [hnone] using (haccept (fetch s)).2 ⟨he, rfl⟩
    exact edgeResult_rsp_status_of_unwritten (edgeEvent_fixed_ne_looped s level h) hr ha

end Sys2Proof.Machine

/-! ### Consumed responses and the order of acceptance (20_memory.md, R49) -/

namespace Sys2Proof.Machine

theorem noLoop_iff_exists_fixed (p : Ports) : p.noLoop ↔ ∃ level, p.rspReady = .fixed level := by
  cases h : p.rspReady with
  | fixed level => simp [h]
  | fromReqReady => simp [h]

theorem held_of_valid {s : State} (h : s.rsp.valid = true) : held s = [s.rsp] := by
  simp [held, h]

theorem held_of_not_valid {s : State} (h : s.rsp.valid = false) : held s = [] := by
  simp [held, h]

/-- The block holds one response at most (R28). -/
theorem length_held_le_one (s : State) : (held s).length ≤ 1 := by
  cases h : s.rsp.valid with
  | true => simp [held_of_valid h]
  | false => simp [held_of_not_valid h]

theorem edgeResult_rsp_of_consume {s : State} (he : edgeEvent s = .consume) :
    (edgeResult s).rsp = { s.rsp with valid := false } := by
  simp [edgeResult, he]

theorem edgeResult_rsp_of_hold {s : State} (he : edgeEvent s = .hold) : (edgeResult s).rsp = s.rsp := by
  simp [edgeResult, he]

theorem held_edgeResult_of_reset {s : State} (he : edgeEvent s = .reset) : held (edgeResult s) = [] :=
  held_of_not_valid (by rw [edgeResult_rsp_of_reset he, Rsp.reset_valid])

theorem held_edgeResult_of_accept {s : State} (he : edgeEvent s = .accept) :
    held (edgeResult s) = [responseTo (fetch s)] := by
  have hr := edgeResult_rsp_of_accept he
  rw [held_of_valid (by rw [hr, responseTo, responseOf_valid]), hr]

theorem held_edgeResult_of_consume {s : State} (he : edgeEvent s = .consume) : held (edgeResult s) = [] :=
  held_of_not_valid (by rw [edgeResult_rsp_of_consume he])

theorem held_edgeResult_of_hold {s : State} (he : edgeEvent s = .hold) : held (edgeResult s) = held s := by
  simp only [held, edgeResult_rsp_of_hold he]

/-- An accepting and a consuming edge take away whatever is held; a reset and a holding edge hand nothing over. -/
theorem consumedAt_by_event {s : State} (h : (portsNow s).noLoop) :
    consumedAt s = if edgeEvent s = .accept ∨ edgeEvent s = .consume then held s else [] := by
  obtain ⟨level, hlevel⟩ := (noLoop_iff_exists_fixed _).1 h
  rw [consumedAt_fixed s level hlevel, edgeEvent_fixed s level hlevel]
  cases hv : s.rsp.valid with
  | false => simp [held_of_not_valid hv]
  | true =>
    rw [held_of_valid hv]
    cases level with
    | false => cases (portsNow s).rst <;> simp
    | true =>
      cases (portsNow s).rst with
      | true => simp
      | false => cases (portsNow s).reqValid <;> simp

/-- An edge without reset or loop neither loses nor duplicates a response: what was held and what it accepts is what it
consumes and what is held afterwards, in this order. -/
theorem held_append_accepted_eq_consumed_append_held {s : State} (h : (portsNow s).noLoop) (hr : edgeEvent s ≠ .reset) :
    held s ++ (acceptedAt s).map responseTo = consumedAt s ++ held (edgeResult s) := by
  rw [consumedAt_by_event h, acceptedAt]
  cases he : edgeEvent s with
  | looped => exact absurd ((edgeEvent_looped_iff s).1 he) h
  | reset => exact absurd he hr
  | accept => simp [held_edgeResult_of_accept he]
  | consume => simp [held_edgeResult_of_consume he]
  | hold => simp [held_edgeResult_of_hold he]

/-- The order of R49 at one edge: a reset edge may drop the held response, every other edge keeps all of them. -/
theorem consumed_append_held_sublist {s : State} (h : (portsNow s).noLoop) :
    (consumedAt s ++ held (edgeResult s)).Sublist (held s ++ (acceptedAt s).map responseTo) := by
  by_cases he : edgeEvent s = .reset
  · simp [consumedAt_by_event h, he, held_edgeResult_of_reset he]
  · rw [held_append_accepted_eq_consumed_append_held h he]

/-- The order of R49 over a run: the order at its first edge, then the order over the edges that remain. -/
theorem consumedOver_sublist (k : Nat) (s : State) (h : ∀ p ∈ portsOver k s, p.noLoop) :
    (consumedOver k s).Sublist (held s ++ (acceptedOver k s).map responseTo) := by
  induction k generalizing s with
  | zero => exact List.nil_sublist _
  | succ k ih =>
    obtain ⟨hnow, hlater⟩ := List.forall_mem_cons.1 h
    rw [← portsOver_edgeResult] at hlater
    have hrest : (consumedAt s ++ consumedOver k (edgeResult s)).Sublist
        (consumedAt s ++ held (edgeResult s) ++ (acceptedOver k (edgeResult s)).map responseTo) := by
      rw [List.append_assoc]
      exact (ih (edgeResult s) hlater).append_left (consumedAt s)
    have hfirst := (consumed_append_held_sublist hnow).append_right ((acceptedOver k (edgeResult s)).map responseTo)
    simpa using hrest.trans hfirst

/-- Settles O16, by induction on the number of edges. -/
theorem responsesLeaveInAcceptanceOrder : Obligations.ResponsesLeaveInAcceptanceOrder :=
  fun k s h => ⟨length_held_le_one s, consumedOver_sublist k s h⟩

/-! ### The byte lanes of a frame (20_memory.md, R45) -/

theorem frameBytes_eq_map_byteAt (f : Frame) : frameBytes f = (List.range 9).map (byteAt f) := rfl

/-- Bit `j` of lane `i` is bus bit `8 * i + j` (R45). -/
theorem byteAt_getLsbD_of_lt (f : Frame) (i : Nat) {j : Nat} (hj : j < 8) :
    (byteAt f i).getLsbD j = f.getLsbD (8 * i + j) := by
  rw [byteAt_getLsbD, decide_eq_true hj, Bool.true_and]

/-- Every bus bit lies in one of the nine lanes, so the bytes determine the frame. -/
theorem frameBytes_injective : Function.Injective frameBytes := by
  intro f g h
  simp only [frameBytes_eq_map_byteAt, List.map_inj_left, List.mem_range] at h
  apply BitVec.eq_of_getLsbD_eq
  intro n hn
  have hlane : byteAt f (n / 8) = byteAt g (n / 8) := h (n / 8) (by omega)
  have hbit : n % 8 < 8 := Nat.mod_lt n (by decide)
  rw [← Nat.div_add_mod n 8, ← byteAt_getLsbD_of_lt f _ hbit, ← byteAt_getLsbD_of_lt g _ hbit, hlane]

/-- Lane `i` of a frame put together from nine bytes is the `i`-th of them: bit `8 * i + j` passes the tests for the lanes
below `i` and meets that for lane `i`. -/
theorem byteAt_frameOfBytes (b0 b1 b2 b3 b4 b5 b6 b7 b8 : Byte) {i : Nat} (hi : i < 9) :
    byteAt (frameOfBytes b0 b1 b2 b3 b4 b5 b6 b7 b8) i = [b0, b1, b2, b3, b4, b5, b6, b7, b8].getD i 0 := by
  apply BitVec.eq_of_getLsbD_eq
  intro j hj
  rw [byteAt_getLsbD_of_lt _ i hj, frameOfBytes_getLsbD]
  interval_cases i <;>
    simp (disch := omega) only [if_pos, if_neg, Nat.add_sub_cancel_left, Nat.mul_zero, Nat.zero_add] <;> rfl

theorem frameBytes_frameOfBytes (b0 b1 b2 b3 b4 b5 b6 b7 b8 : Byte) :
    frameBytes (frameOfBytes b0 b1 b2 b3 b4 b5 b6 b7 b8) = [b0, b1, b2, b3, b4, b5, b6, b7, b8] := by
  simp [frameBytes, byteAt_frameOfBytes]

/-- Settles O53: the lanes of a frame, bit by bit; the read frame is a fixed word and is evaluated. -/
theorem frameByteLanes : Obligations.FrameByteLanes :=
  ⟨frameBytes_frameOfBytes, fun _ _ h => frameBytes_injective h, fun f i _ _ hj => byteAt_getLsbD_of_lt f i hj,
    by decide⟩

end Sys2Proof.Machine

/-! ### The operation a request word selects (30_encoding.md, R62) -/

namespace Sys2Proof.Machine

/-- Settles O50: each clause fixes the op field, and with it the one arm of the decoder that can run. -/
theorem opMapSelectsOperation : Obligations.OpMapSelectsOperation := by
  intro r
  refine ⟨?_, ?_, ?_, ?_, ?_, ?_, ?_, ?_⟩
  all_goals
    intro hop
    rw [decodeReq, opField, hop]
    rfl

end Sys2Proof.Machine

/-! ### Where the ports stand in `REQ` and the fields in `RSP` (30_encoding.md, R60 and R66) -/

namespace Sys2Proof.Machine

/-- Byte lane `i` of a frame that stands at bit `base` of a word starts `8 * i` bits above `base` (R45). -/
theorem byteAt_extractLsb' {w : Nat} (x : BitVec w) (base : Nat) {i : Nat} (hi : i < 9) :
    byteAt (x.extractLsb' base 72) i = x.extractLsb' (base + 8 * i) 8 := by
  apply BitVec.eq_of_getLsbD_eq
  intro j hj
  have hbus : 8 * i + j < 72 := by omega
  simp [byteAt, hj, hbus, Nat.add_assoc]

theorem opField_reqWord (p : Ports) : opField (reqWord p) = p.reqOp := opField_packReq ..

theorem operandsOf_reqWord (p : Ports) :
    operandsOf (reqWord p) = { arg := p.reqArg, len := p.reqLen, data := p.reqData } := operandsOf_packReq ..

/-- Settles O51: the fields of the packed word are the ports it was packed from, and the lanes are those of `data`. -/
theorem requestFieldPositions : Obligations.RequestFieldPositions := by
  intro p
  obtain ⟨harg, hlen, hdata⟩ := Operands.mk.inj (operandsOf_reqWord p)
  refine ⟨opField_reqWord p, harg, hlen, hdata, fun i hi => ?_⟩
  calc (reqWord p).extractLsb' (27 + 8 * i) 8
      = byteAt (dataField (reqWord p)) i := (byteAt_extractLsb' _ _ hi).symm
    _ = byteAt p.reqData i := by rw [hdata]

/-- Every field is cut out of the packed word where it was put in. -/
theorem unpackRsp_packRsp (r : Rsp) : unpackRsp (packRsp r) = r := by
  have hvalid : (packRsp r).getLsbD 0 = r.valid := by rw [packRsp_getLsbD]; rfl
  rw [unpackRsp, hvalid, packRsp]
  simp (disch := omega) only [BitVec.extractLsb'_append_eq_of_le, BitVec.extractLsb'_append_eq_of_add_le,
    BitVec.extractLsb'_eq_self, Nat.reduceSub]

theorem ofBool_getLsbD_zero {w : Nat} (x : BitVec w) : BitVec.ofBool (x.getLsbD 0) = x.extractLsb' 0 1 := by
  apply BitVec.eq_of_getLsbD_eq
  intro j hj
  obtain rfl : j = 0 := by omega
  simp

/-- Neighbouring fields join up, from `frame` down to `valid`, to the whole word. -/
theorem packRsp_unpackRsp (w : RspWord) : packRsp (unpackRsp w) = w := by
  unfold packRsp unpackRsp
  simp (disch := rfl) only [ofBool_getLsbD_zero, BitVec.extractLsb'_append_extractLsb'_eq_extractLsb']
  exact BitVec.extractLsb'_eq_self

/-- Settles O52: the fields of the packed word are those unpacking reads. -/
theorem responseFieldPositions : Obligations.ResponseFieldPositions := by
  refine ⟨fun r => ?_, packRsp_unpackRsp⟩
  have hr := unpackRsp_packRsp r
  obtain ⟨hvalid, hop, hstatus, hppm, htemp, hcksum, hframe⟩ := Rsp.mk.inj hr
  refine ⟨hvalid, hop, hstatus, hppm, htemp, hcksum, fun i hi => ?_, hr⟩
  rw [← byteAt_extractLsb' _ _ hi, hframe]

end Sys2Proof.Machine

/-! ### The results of `Execute` by outcome (30_encoding.md, R61, R67 to R69) -/

namespace Sys2Proof.Machine

/-! #### DECODE -/

theorem execute_decode_of_len_ne {x : Operands} (hlen : x.len ≠ 9) :
    execute (.decode x) = errorPayload statusShortRead :=
  if_neg (mt (lengthOk_iff _).1 hlen)

theorem execute_decode_of_mismatch {x : Operands} (hlen : x.len = 9) (hck : frameChecksum x.data ≠ byteAt x.data 8) :
    execute (.decode x) =
      { Payload.zero with status := statusChecksumMismatch, cksum := frameChecksum x.data } :=
  (if_pos ((lengthOk_iff _).2 hlen)).trans (if_neg (mt (checksumOk_iff _).1 hck))

theorem execute_decode_of_match {x : Operands} (hlen : x.len = 9) (hck : frameChecksum x.data = byteAt x.data 8) :
    execute (.decode x) =
      { Payload.zero with ppm := framePpm x.data, temp := frameTemp x.data, cksum := frameChecksum x.data } :=
  (if_pos ((lengthOk_iff _).2 hlen)).trans (if_pos ((checksumOk_iff _).2 hck))

theorem execute_decode_frame (x : Operands) : (execute (.decode x)).frame = 0 := by
  by_cases hlen : x.len = 9
  · by_cases hck : frameChecksum x.data = byteAt x.data 8
    · rw [execute_decode_of_match hlen hck]; rfl
    · rw [execute_decode_of_mismatch hlen hck]; rfl
  · rw [execute_decode_of_len_ne hlen]; rfl

/-- `Checksum` reads the span bytes alone (R80). -/
theorem frameChecksum_congr {f g : Frame} (h : ∀ i, 1 ≤ i → i ≤ 7 → byteAt f i = byteAt g i) :
    frameChecksum f = frameChecksum g := by
  simp [frameChecksum, h]

/-- Nine presented bytes act on a `DECODE` result through the two ppm bytes, the temperature byte, the checksum and the
byte 8 it is compared with (R96). -/
theorem execute_decode_congr {x y : Operands} (hx : x.len = 9) (hy : y.len = 9)
    (hppm : framePpm x.data = framePpm y.data) (htemp : frameTemp x.data = frameTemp y.data)
    (hck : frameChecksum x.data = frameChecksum y.data) (h8 : byteAt x.data 8 = byteAt y.data 8) :
    execute (.decode x) = execute (.decode y) := by
  by_cases h : frameChecksum x.data = byteAt x.data 8
  · rw [execute_decode_of_match hx h, execute_decode_of_match hy (by rw [← hck, h, h8]), hppm, htemp, hck]
  · rw [execute_decode_of_mismatch hx h, execute_decode_of_mismatch hy (by rwa [← hck, ← h8]), hck]

/-! #### BUILD_RANGE -/

/-- The one outcome of `BUILD_RANGE` that builds no frame (R103). -/
theorem execute_buildRange_of_unsupported {x : Operands} (hlow : x.arg ≠ 2000) (hhigh : x.arg ≠ 5000) :
    execute (.buildRange x) = errorPayload statusInvalidArgument :=
  (if_neg hlow).trans (if_neg hhigh)

/-- `BUILD_RANGE` gives a built frame or an error, never a reading. -/
theorem execute_buildRange_ppm_temp (x : Operands) :
    (execute (.buildRange x)).ppm = 0 ∧ (execute (.buildRange x)).temp = 0 := by
  show (buildRangePayload x).ppm = 0 ∧ (buildRangePayload x).temp = 0
  unfold buildRangePayload
  split_ifs <;> exact ⟨rfl, rfl⟩

theorem execute_buildRange_congr {x y : Operands} (h : x.arg = y.arg) :
    execute (.buildRange x) = execute (.buildRange y) := by
  simp only [execute, buildRangePayload, h]

/-- Settles O23: the outcomes of each operation, one by one. -/
theorem unwrittenFieldsAreZero : Obligations.UnwrittenFieldsAreZero := by
  intro x
  obtain ⟨hrangePpm, hrangeTemp⟩ := execute_buildRange_ppm_temp x
  refine ⟨execute_decode_of_len_ne, fun hlen hck => ?_, execute_decode_frame x, rfl, rfl, rfl, rfl, rfl, rfl, rfl,
    hrangePpm, hrangeTemp, execute_buildRange_of_unsupported, rfl, fun _ => rfl⟩
  rw [execute_decode_of_mismatch hlen hck]
  exact ⟨rfl, rfl⟩

/-- Settles O24: every operation's congruence over the fields it reads. -/
theorem ignoredFieldsDoNotMatter : Obligations.IgnoredFieldsDoNotMatter := by
  intro x y
  refine ⟨fun hlen hbytes => ?_, fun hspan => ?_, rfl, rfl, execute_buildRange_congr, rfl, fun _ => rfl⟩
  · by_cases h9 : x.len = 9
    · have hb := hbytes h9
      have hck : frameChecksum x.data = frameChecksum y.data :=
        frameChecksum_congr fun i h1 h7 => hb i h1 (by omega)
      refine execute_decode_congr h9 (hlen ▸ h9) ?_ (hb 4 (by omega) (by omega)) hck (hb 8 (by omega) (by omega))
      rw [framePpm, framePpm, hb 2 (by omega) (by omega), hb 3 (by omega) (by omega)]
    · rw [execute_decode_of_len_ne h9, execute_decode_of_len_ne (hlen ▸ h9)]
  · show cksumPayload x = cksumPayload y
    rw [cksumPayload, cksumPayload, frameChecksum_congr hspan]

/-! #### The saturated count (R67) -/

theorem presentCount_toNat (n : Nat) : (presentCount n).toNat = min n 255 := by
  rw [presentCount, BitVec.toNat_ofNat]
  omega

/-- A count that is cut is presented as 255, so 9 is presented for nine bytes alone. -/
theorem presentCount_eq_nine_iff (n : Nat) : presentCount n = 9 ↔ n = 9 := by
  rw [← BitVec.toNat_inj, presentCount_toNat]
  show min n 255 = 9 ↔ n = 9
  omega

/-- Settles O40: counts other than 9 all stay other than 9, and `DECODE` answers each with the same short read. -/
theorem saturatedCountLosesNothing : Obligations.SaturatedCountLosesNothing := by
  have hshort : ∀ (n : Nat) (x : Operands), n ≠ 9 →
      execute (.decode { x with len := presentCount n }) = errorPayload statusShortRead :=
    fun n x hn => execute_decode_of_len_ne (mt (presentCount_eq_nine_iff n).1 hn)
  refine ⟨fun n => ⟨presentCount_toNat n, presentCount_eq_nine_iff n⟩, fun n m x hn hm => ?_, fun x hlow hhigh => ?_⟩
  · rw [hshort n x hn, hshort m x hm]
  · rw [execute_buildRange_of_unsupported (fun h => hlow (by rw [h]; rfl)) (fun h => hhigh (by rw [h]; rfl))]
    rfl

/-- Settles O47: `exec` writes each reserved request's response, the `ILLEGAL_OP` error under the request's own code. -/
theorem reservedResult : Obligations.ReservedResult :=
  fun _ s => ⟨exec_eq_respond _ s, exec_eq_respond _ s, exec_eq_respond _ s⟩

end Sys2Proof.Machine

/-! ### The checksum: its forms, its range and what it detects (40_checksum.md, R80 to R86) -/

namespace Sys2Proof.Machine

/-! #### The checksum as an 8-bit word -/

/-- Adding the seven bytes as 8-bit words wraps their natural sum. -/
theorem toNat_add_span (b1 b2 b3 b4 b5 b6 b7 : Byte) :
    (b1 + b2 + b3 + b4 + b5 + b6 + b7).toNat = spanSum b1 b2 b3 b4 b5 b6 b7 % 256 := by
  simp [spanSum, BitVec.toNat_add]

/-- The checksum is the two's-complement negation of the wrapped sum. -/
theorem checksum_eq_neg (b1 b2 b3 b4 b5 b6 b7 : Byte) :
    checksum b1 b2 b3 b4 b5 b6 b7 = -(b1 + b2 + b3 + b4 + b5 + b6 + b7) := by
  apply BitVec.eq_of_toNat_eq
  rw [checksum_toNat, BitVec.toNat_neg, toNat_add_span]

/-- Inverting the eight bits of a value below 256. -/
theorem xor_0xFF_of_lt {t : Nat} (h : t < 256) : 0xFF ^^^ t = 255 - t := by
  have hnot := congrArg BitVec.toNat (BitVec.allOnes_xor (x := BitVec.ofNat 8 t))
  simpa [Nat.mod_eq_of_lt h] using hnot

/-- Settles O28: the numeric forms follow from the wrapped sum, the word form is the negation written as invert and
add one. -/
theorem checksumEquivalentForms : Obligations.ChecksumEquivalentForms := by
  rintro b1 b2 b3 b4 b5 b6 b7 s t rfl rfl
  have hnat := checksum_toNat b1 b2 b3 b4 b5 b6 b7
  have hxor := xor_0xFF_of_lt (Nat.mod_lt (spanSum b1 b2 b3 b4 b5 b6 b7) (by decide : 256 > 0))
  refine ⟨checksumOfSum_toNat _, hnat, by omega, ?_, ?_, ?_⟩
  · omega
  · split <;> omega
  · rw [checksum_eq_neg, BitVec.neg_eq_not_add]

/-! #### Range and corners (R86) -/

theorem checksum_eq_zero_iff (b1 b2 b3 b4 b5 b6 b7 : Byte) :
    checksum b1 b2 b3 b4 b5 b6 b7 = 0 ↔ spanSum b1 b2 b3 b4 b5 b6 b7 % 256 = 0 := by
  rw [← BitVec.toNat_inj, checksum_toNat]
  show (256 - spanSum b1 b2 b3 b4 b5 b6 b7 % 256) % 256 = 0 ↔ _
  omega

/-- The checksum of a byte's negation and six zeros is that byte, so every byte is reached. -/
theorem checksum_neg_zeros (c : Byte) : checksum (-c) 0 0 0 0 0 0 = c := by
  simp [checksum_eq_neg]

/-- Settles O32: the corners are values of `checksumOfSum` at fixed sums and are evaluated. -/
theorem checksumRangeAndCorners : Obligations.ChecksumRangeAndCorners := by
  refine ⟨fun c => ⟨-c, 0, 0, 0, 0, 0, 0, checksum_neg_zeros c⟩, fun b1 b2 b3 b4 b5 b6 b7 => ?_⟩
  exact ⟨Nat.le_of_lt_succ (checksum b1 b2 b3 b4 b5 b6 b7).isLt, checksum_eq_zero_iff .., congrArg checksumOfSum,
    congrArg checksumOfSum, congrArg checksumOfSum, congrArg checksumOfSum, congrArg checksumOfSum⟩

/-! #### Matching frames (R83, R84) -/

/-- A frame matches exactly when its span sum and its byte 8 cancel modulo 256. -/
theorem frameChecksum_eq_byteAt_eight_iff (f : Frame) :
    frameChecksum f = byteAt f 8 ↔ (frameSum f + (byteAt f 8).toNat) % 256 = 0 := by
  rw [← BitVec.toNat_inj, frameChecksum_toNat]
  have h8 := (byteAt f 8).isLt
  omega

/-- Settles O30: the sum of bytes 1 to 8 is the span sum and byte 8. -/
theorem checksumValidityLaw : Obligations.ChecksumValidityLaw :=
  fun f => frameChecksum_eq_byteAt_eight_iff f

/-- The sum the validity law speaks of, as a sum over the byte positions. -/
theorem frameSum_add_byteAt_eight (f : Frame) :
    frameSum f + (byteAt f 8).toNat = ∑ j ∈ Finset.Icc 1 8, (byteAt f j).toNat := by
  simp [Finset.sum_Icc_succ_top, frameSum, spanSum]

/-- Frames that agree on bytes 1 to 8 away from position `k` have sums that differ by what they hold at `k`. -/
theorem frameSum_add_byteAt_eight_of_agree_off {f g : Frame} {k : Nat} (h1 : 1 ≤ k) (h8 : k ≤ 8)
    (h : ∀ j, j < 9 → j ≠ k → byteAt f j = byteAt g j) :
    frameSum f + (byteAt f 8).toNat + (byteAt g k).toNat = frameSum g + (byteAt g 8).toNat + (byteAt f k).toNat := by
  have hk : k ∈ Finset.Icc 1 8 := Finset.mem_Icc.2 ⟨h1, h8⟩
  have hrest : ∑ j ∈ (Finset.Icc 1 8).erase k, (byteAt f j).toNat =
      ∑ j ∈ (Finset.Icc 1 8).erase k, (byteAt g j).toNat := by
    refine Finset.sum_congr rfl fun j hj => ?_
    obtain ⟨hne, hmem⟩ := Finset.mem_erase.1 hj
    rw [h j (Nat.lt_succ_of_le (Finset.mem_Icc.1 hmem).2) hne]
  rw [frameSum_add_byteAt_eight, frameSum_add_byteAt_eight, ← Finset.add_sum_erase _ _ hk,
    ← Finset.add_sum_erase (Finset.Icc 1 8) (fun j => (byteAt g j).toNat) hk, hrest]
  omega

/-- A change of one byte moves the sum by less than 256, so it cannot keep it at 0. -/
theorem frameChecksum_ne_of_agree_off {f g : Frame} {k : Nat} (h1 : 1 ≤ k) (h8 : k ≤ 8)
    (h : ∀ j, j < 9 → j ≠ k → byteAt f j = byteAt g j) (hk : byteAt f k ≠ byteAt g k)
    (hf : frameChecksum f = byteAt f 8) : frameChecksum g ≠ byteAt g 8 := by
  rw [frameChecksum_eq_byteAt_eight_iff] at hf
  rw [Ne, frameChecksum_eq_byteAt_eight_iff]
  have hsum := frameSum_add_byteAt_eight_of_agree_off h1 h8 h
  have hne := mt BitVec.eq_of_toNat_eq hk
  have hfk := (byteAt f k).isLt
  have hgk := (byteAt g k).isLt
  omega

/-- Matching depends on the sum of bytes 1 to 8 modulo 256 alone. -/
theorem frameChecksum_match_congr {f g : Frame}
    (h : (frameSum f + (byteAt f 8).toNat) % 256 = (frameSum g + (byteAt g 8).toNat) % 256) :
    frameChecksum f = byteAt f 8 ↔ frameChecksum g = byteAt g 8 := by
  rw [frameChecksum_eq_byteAt_eight_iff, frameChecksum_eq_byteAt_eight_iff, h]

/-- With byte 8 kept, it depends on the span sum modulo 256 alone. -/
theorem frameChecksum_match_congr_of_frameSum {f g : Frame} (h8 : byteAt f 8 = byteAt g 8)
    (h : frameSum f % 256 = frameSum g % 256) :
    frameChecksum f = byteAt f 8 ↔ frameChecksum g = byteAt g 8 :=
  frameChecksum_match_congr (by rw [h8, Nat.add_mod, h, ← Nat.add_mod])

theorem frameSum_eq_sum_span (f : Frame) : frameSum f = (((frameBytes f).extract 1 8).map BitVec.toNat).sum := by
  simp [frameSum, spanSum, frameBytes, Nat.add_assoc]

theorem frameSum_eq_of_span_perm {f g : Frame} (h : ((frameBytes f).extract 1 8).Perm ((frameBytes g).extract 1 8)) :
    frameSum f = frameSum g := by
  rw [frameSum_eq_sum_span, frameSum_eq_sum_span, (h.map BitVec.toNat).sum_eq]

/-- Settles O31: a one-byte change moves the sum; every other clause keeps it modulo 256. -/
theorem checksumDetection : Obligations.ChecksumDetection := by
  refine ⟨fun f g k => frameChecksum_ne_of_agree_off, fun f g hbytes => ?_,
    fun f g => frameChecksum_match_congr_of_frameSum, fun f g h8 hperm => ?_, fun f g => frameChecksum_match_congr⟩
  · have hspan : frameChecksum f = frameChecksum g := frameChecksum_congr fun i h1 h7 => hbytes i h1 (by omega)
    rw [hspan, hbytes 8 (by decide) (by decide)]
  · exact frameChecksum_match_congr_of_frameSum h8 (by rw [frameSum_eq_of_span_perm hperm])

/-- Settles O33: `exec` writes the response of `CKSUM`, whose payload is the frame's checksum and zeros. -/
theorem cksumResult : Obligations.CksumResult :=
  fun x s => exec_eq_respond (.cksum x) s

end Sys2Proof.Machine

/-! ### The outcomes of `DECODE` and the bytes it reads (41_decode.md, R91 to R96) -/

namespace Sys2Proof.Machine

/-! #### The outcomes (R91, R92, R96) -/

/-- Settles O34: a short read answers the error payload, which holds no data byte. -/
theorem decodeShortRead : Obligations.DecodeShortRead := by
  intro x s hlen
  rw [exec_eq_respond, execute_decode_of_len_ne hlen]
  rfl

/-- Settles O35: `exec` writes the payload of each of the three outcomes. -/
theorem decodeOutcomes : Obligations.DecodeOutcomes := by
  intro x s
  refine ⟨decodeShortRead x s, fun hlen hck => ?_, fun hlen hck => ?_⟩
  · rw [exec_eq_respond, execute_decode_of_mismatch hlen hck]
    rfl
  · rw [exec_eq_respond, execute_decode_of_match hlen hck, hck]
    rfl

/-- Of the three outcomes the match alone carries status 0 (R92). -/
theorem execute_decode_status_eq_zero_iff (x : Operands) :
    (execute (.decode x)).status = 0 ↔ x.len = 9 ∧ frameChecksum x.data = byteAt x.data 8 := by
  refine ⟨fun hstatus => ?_, fun ⟨hlen, hck⟩ => by rw [execute_decode_of_match hlen hck]; rfl⟩
  by_cases hlen : x.len = 9
  · refine ⟨hlen, by_contra fun hck => ?_⟩
    rw [execute_decode_of_mismatch hlen hck] at hstatus
    exact absurd hstatus (by decide : statusChecksumMismatch ≠ 0)
  · rw [execute_decode_of_len_ne hlen] at hstatus
    exact absurd hstatus (by decide : statusShortRead ≠ 0)

/-- Settles O36: the status of the match, and that of the mismatch. -/
theorem decodeValidIff : Obligations.DecodeValidIff := by
  refine fun x => ⟨execute_decode_status_eq_zero_iff x, fun hlen hck => ?_⟩
  rw [execute_decode_of_mismatch hlen hck]
  rfl

/-! #### The ppm word (R93) -/

/-- Two bytes are below 2^16 together, so the ppm word does not wrap. -/
theorem framePpm_toNat (f : Frame) : (framePpm f).toNat = (byteAt f 2).toNat * 256 + (byteAt f 3).toNat := by
  have h2 := (byteAt f 2).isLt
  have h3 := (byteAt f 3).isLt
  rw [framePpm, BitVec.toNat_ofNat]
  omega

/-- Byte 2 stands in bits 15 to 8: placing it above byte 3 adds 256 times its value. -/
theorem framePpm_eq_append (f : Frame) : framePpm f = byteAt f 2 ++ byteAt f 3 := by
  apply BitVec.eq_of_toNat_eq
  rw [framePpm_toNat, BitVec.toNat_append, ← Nat.shiftLeft_add_eq_or_of_lt (byteAt f 3).isLt, Nat.shiftLeft_eq]

/-- Settles O37: status 0 is the match, whose `ppm` is the frame's ppm word. -/
theorem decodePpmIsBigEndian : Obligations.DecodePpmIsBigEndian := by
  intro x hstatus
  obtain ⟨hlen, hck⟩ := (execute_decode_status_eq_zero_iff x).1 hstatus
  rw [execute_decode_of_match hlen hck]
  exact ⟨framePpm_eq_append x.data, framePpm_toNat x.data⟩

/-! #### The bytes no rule checks (R95) -/

theorem frameChecksum_frameOfBytes (b0 b1 b2 b3 b4 b5 b6 b7 b8 : Byte) :
    frameChecksum (frameOfBytes b0 b1 b2 b3 b4 b5 b6 b7 b8) = checksum b1 b2 b3 b4 b5 b6 b7 := by
  simp [frameChecksum, byteAt_frameOfBytes]

/-- Whatever the count, `DECODE` reads the frame through bytes 2, 3, 4 and 8 and the checksum alone. -/
theorem execute_decode_congr_of_bytes {x y : Operands} (hlen : x.len = y.len)
    (h2 : byteAt x.data 2 = byteAt y.data 2) (h3 : byteAt x.data 3 = byteAt y.data 3)
    (h4 : byteAt x.data 4 = byteAt y.data 4) (h8 : byteAt x.data 8 = byteAt y.data 8)
    (hck : frameChecksum x.data = frameChecksum y.data) : execute (.decode x) = execute (.decode y) := by
  by_cases h9 : x.len = 9
  · have hppm : framePpm x.data = framePpm y.data := by rw [framePpm, framePpm, h2, h3]
    exact execute_decode_congr h9 (hlen ▸ h9) hppm h4 hck h8
  · rw [execute_decode_of_len_ne h9, execute_decode_of_len_ne (hlen ▸ h9)]

/-- Settles O38: a frame closed with its own checksum is a match whatever its bytes; that byte 0 is never read is part of
O24. -/
theorem decodeUncheckedBytes : Obligations.DecodeUncheckedBytes := by
  refine ⟨fun b0 b1 b2 b3 b4 b5 b6 b7 arg => ?_, fun x y hlen hbytes => ?_,
    fun x y => execute_decode_congr_of_bytes⟩
  · refine (execute_decode_status_eq_zero_iff _).2 ⟨rfl, ?_⟩
    simp [frameChecksum_frameOfBytes, byteAt_frameOfBytes]
  · exact (ignoredFieldsDoNotMatter x y).1 hlen fun _ => hbytes

end Sys2Proof.Machine

/-! ### The fixed command frames (42_command_builder.md, R100 to R102) -/

namespace Sys2Proof.Machine

theorem frameRead_eq : frameRead = 0x7900000000008601FF := by decide
theorem frameCal_eq : frameCal = 0x7800000000008701FF := by decide

theorem execute_buildRead (x : Operands) : execute (.buildRead x) = framePayload frameRead := rfl
theorem execute_buildCal (x : Operands) : execute (.buildCal x) = framePayload frameCal := rfl

/-- The answer to a builder: the frame, its byte 8 in `cksum`, and zeros. -/
theorem responseOf_framePayload (op : Op) (f : Frame) :
    responseOf op (framePayload f) =
      { valid := true, op := op, status := 0, ppm := 0, temp := 0, cksum := byteAt f 8, frame := f } := rfl

/-- Settles O41: `exec` writes the response that holds the read frame, whose byte 8 is 0x79. -/
theorem buildReadResult : Obligations.BuildReadResult := by
  intro x s
  rw [exec_eq_respond, execute_buildRead, respond, responseOf_framePayload, frameRead_eq]
  rfl

/-- Settles O42: `exec` writes the response that holds the calibration frame, whose byte 8 is 0x78. -/
theorem buildCalResult : Obligations.BuildCalResult := by
  intro x s
  rw [exec_eq_respond, execute_buildCal, respond, responseOf_framePayload, frameCal_eq]
  rfl

end Sys2Proof.Machine

/-! ### The error codes: causes, records and priority (60_exceptions.md, R120 and R121) -/

namespace Sys2Proof.Machine

/-! #### The status of each operation (R63) -/

@[simp] theorem execute_cksum_status (x : Operands) : (execute (.cksum x)).status = 0 := rfl
@[simp] theorem execute_buildRead_status (x : Operands) : (execute (.buildRead x)).status = 0 := rfl
@[simp] theorem execute_buildCal_status (x : Operands) : (execute (.buildCal x)).status = 0 := rfl
@[simp] theorem execute_reservedFive_status (x : Operands) : (execute (.reservedFive x)).status = 4 := rfl
@[simp] theorem execute_reservedSixSeven_status (low : Bool) (x : Operands) :
    (execute (.reservedSixSeven low x)).status = 4 := rfl

/-- The length is tested first, then the checksum (R121). -/
theorem execute_decode_status (x : Operands) :
    (execute (.decode x)).status =
      if x.len ≠ 9 then 1 else if frameChecksum x.data ≠ byteAt x.data 8 then 2 else 0 := by
  by_cases hlen : x.len = 9
  · rw [if_neg (not_not.2 hlen)]
    by_cases hck : frameChecksum x.data = byteAt x.data 8
    · rw [execute_decode_of_match hlen hck, if_neg (not_not.2 hck)]; rfl
    · rw [execute_decode_of_mismatch hlen hck, if_pos hck]; rfl
  · rw [execute_decode_of_len_ne hlen, if_pos hlen]; rfl

theorem execute_buildRange_status_of_supported {x : Operands} (harg : x.arg = 2000 ∨ x.arg = 5000) :
    (execute (.buildRange x)).status = 0 := by
  rcases harg with harg | harg <;> rw [execute, buildRangePayload, harg] <;> rfl

theorem execute_buildRange_status (x : Operands) :
    (execute (.buildRange x)).status = if x.arg ≠ 2000 ∧ x.arg ≠ 5000 then 3 else 0 := by
  by_cases harg : x.arg = 2000 ∨ x.arg = 5000
  · rw [execute_buildRange_status_of_supported harg, if_neg (by tauto)]
  · obtain ⟨hlow, hhigh⟩ := not_or.1 harg
    rw [execute_buildRange_of_unsupported hlow hhigh, if_pos ⟨hlow, hhigh⟩]; rfl

/-- Codes 5 to 7 are the reserved rows of the op map, and all answer alike (R68). -/
theorem execute_of_reserved {i : Instr} (hop : 5 ≤ (opOf i).toNat) : execute i = errorPayload statusIllegalOp := by
  cases i with
  | reservedFive x => rfl
  | reservedSixSeven low x => rfl
  | decode x => exact absurd hop (by decide : ¬ 5 ≤ opDecode.toNat)
  | cksum x => exact absurd hop (by decide : ¬ 5 ≤ opCksum.toNat)
  | buildRead x => exact absurd hop (by decide : ¬ 5 ≤ opBuildRead.toNat)
  | buildCal x => exact absurd hop (by decide : ¬ 5 ≤ opBuildCal.toNat)
  | buildRange x => exact absurd hop (by decide : ¬ 5 ≤ opBuildRange.toNat)

/-! #### The priority of the conditions (R121) -/

/-- The order of R121 over a request's fields: it matters to `DECODE` alone, since each other operation can meet one
condition at most. -/
theorem execute_status (i : Instr) :
    (execute i).status =
      if 5 ≤ (opOf i).toNat then 4
      else if opOf i = 0 ∧ (operands i).len ≠ 9 then 1
      else if opOf i = 0 ∧ frameChecksum (operands i).data ≠ byteAt (operands i).data 8 then 2
      else if opOf i = 4 ∧ (operands i).arg ≠ 2000 ∧ (operands i).arg ≠ 5000 then 3
      else 0 := by
  cases i with
  | decode x => simp [execute_decode_status, opOf, operands, opDecode]
  | buildRange x => simp [execute_buildRange_status, opOf, operands, opBuildRange]
  | cksum x => rfl
  | buildRead x => rfl
  | buildCal x => rfl
  | reservedFive x => rfl
  | reservedSixSeven low x => cases low <;> rfl

/-- The decoder keeps the op field of the word it reads (R62). -/
theorem opOf_decodeReq (r : Req) : opOf (decodeReq r) = opField r := by
  have hop : (opField r).toNat < 8 := (opField r).isLt
  apply BitVec.eq_of_toNat_eq
  unfold decodeReq
  generalize (opField r).toNat = n at hop
  interval_cases n <;> rfl

theorem operands_decodeReq (r : Req) : operands (decodeReq r) = operandsOf r := by
  unfold decodeReq
  split <;> rfl

/-- Settles O26: the request a word decodes to has the word's own fields, and R121's order is that over the fields. -/
theorem statusPriority : Obligations.StatusPriority := by
  intro r
  rw [execute_status, opOf_decodeReq, operands_decodeReq]
  rfl

/-! #### The one cause of each error code (R120) -/

/-- Each error code has one cause; no two causes can hold of one request. -/
theorem execute_status_iff_cause (i : Instr) :
    ((execute i).status = 1 ↔ ∃ x, i = .decode x ∧ x.len ≠ 9) ∧
    ((execute i).status = 2 ↔ ∃ x, i = .decode x ∧ x.len = 9 ∧ frameChecksum x.data ≠ byteAt x.data 8) ∧
    ((execute i).status = 3 ↔ ∃ x, i = .buildRange x ∧ x.arg ≠ 2000 ∧ x.arg ≠ 5000) ∧
    ((execute i).status = 4 ↔ 5 ≤ (opOf i).toNat) := by
  cases i with
  | decode x =>
    rw [execute_decode_status]
    split_ifs <;> simp_all [opOf, opDecode]
  | buildRange x =>
    rw [execute_buildRange_status]
    split_ifs <;> simp_all [opOf, opBuildRange]
  | cksum x => simp [opOf, opCksum]
  | buildRead x => simp [opOf, opBuildRead]
  | buildCal x => simp [opOf, opBuildCal]
  | reservedFive x => simp [opOf, opReservedFive]
  | reservedSixSeven low x => cases low <;> simp [opOf, opReservedSixSeven]

/-- Settles O25: `exec` writes the response of the request, and each status names the cause that leaves one payload. -/
theorem errorCodesAndRecords : Obligations.ErrorCodesAndRecords := by
  intro i s
  obtain ⟨hshort, hmismatch, hrange, hillegal⟩ := execute_status_iff_cause i
  refine ⟨respond s (opOf i) (execute i), exec_eq_respond i s, hshort, hmismatch, hrange, hillegal, ?_⟩
  simp only [respond_rsp, responseOf_status]
  refine ⟨fun h => ?_, fun h => ?_, fun h => ?_, fun h => ?_⟩
  · obtain ⟨x, rfl, hlen⟩ := hshort.1 h
    rw [execute_decode_of_len_ne hlen]; rfl
  · obtain ⟨x, rfl, hlen, hck⟩ := hmismatch.1 h
    rw [execute_decode_of_mismatch hlen hck]; rfl
  · obtain ⟨x, rfl, hlow, hhigh⟩ := hrange.1 h
    rw [execute_buildRange_of_unsupported hlow hhigh]; rfl
  · rw [execute_of_reserved (hillegal.1 h)]; rfl

end Sys2Proof.Machine

/-! ### Reset edges and consuming edges (70_reset_and_hazards.md, R140, R143 and R147) -/

namespace Sys2Proof.Machine

/-! #### What a reset edge hands over -/

theorem noLoop_of_edgeEvent_ne_looped {s : State} (he : edgeEvent s ≠ .looped) : (portsNow s).noLoop :=
  fun hloop => he ((edgeEvent_looped_iff s).2 hloop)

theorem acceptedAt_of_reset {s : State} (he : edgeEvent s = .reset) : acceptedAt s = [] := by
  rw [acceptedAt, he]

theorem consumedAt_of_reset {s : State} (he : edgeEvent s = .reset) : consumedAt s = [] := by
  have hloop : (portsNow s).noLoop := noLoop_of_edgeEvent_ne_looped (by simp [he])
  simp [consumedAt_by_event hloop, he]

/-! #### `req_ready` and acceptance at a fixed `rsp_ready` (R26) -/

theorem reqReady_fixed (s : State) (level : Bool) (h : (portsNow s).rspReady = .fixed level) :
    reqReady s = readyLevel (portsNow s).rst s.rsp.valid level := by
  rw [reqReady, h]

theorem reqReady_of_rst {s : State} {level : Bool} (h : (portsNow s).rspReady = .fixed level)
    (hrst : (portsNow s).rst = true) : reqReady s = false := by
  simp [reqReady_fixed s level h, readyLevel, hrst]

/-- An empty register needs no `rsp_ready` to take a request. -/
theorem reqReady_of_not_valid {s : State} {level : Bool} (h : (portsNow s).rspReady = .fixed level)
    (hrst : (portsNow s).rst = false) (hv : s.rsp.valid = false) : reqReady s = true := by
  simp [reqReady_fixed s level h, readyLevel, hrst, hv]

theorem acceptedAt_of_not_valid {s : State} {level : Bool} (h : (portsNow s).rspReady = .fixed level)
    (hrst : (portsNow s).rst = false) (hv : s.rsp.valid = false) (hreq : (portsNow s).reqValid = true) :
    acceptedAt s = [fetch s] := by
  simp [acceptedAt_fixed s level h, hrst, hv, hreq]

/-- Settles O3: the reset edge leaves nothing held, so by the order of R49 every response consumed later answers a
request accepted later. -/
theorem resetDropsHeldResponse : Obligations.ResetDropsHeldResponse := by
  intro s level h hrst _
  have he := (edgeEvent_fixed_eq_reset_iff s level h).2 hrst
  have hempty := held_edgeResult_of_reset he
  refine ⟨acceptedAt_of_reset he, consumedAt_of_reset he, edgeResult s, step_eq s, hempty, fun k hk => ?_⟩
  simpa [hempty] using consumedOver_sublist k (edgeResult s) hk

/-- Settles O1: the register a reset edge leaves is empty, and an empty register accepts at the first edge without
reset. -/
theorem resetEdgeClearsResponse : Obligations.ResetEdgeClearsResponse := by
  intro s level h hrst
  have he := (edgeEvent_fixed_eq_reset_iff s level h).2 hrst
  have hrsp := edgeResult_rsp_of_reset he
  have hv : (edgeResult s).rsp.valid = false := by rw [hrsp, Rsp.reset_valid]
  exact ⟨reqReady_of_rst h hrst, acceptedAt_of_reset he, edgeResult s, step_eq s, hrsp, fun _ h' hrst' =>
    ⟨reqReady_of_not_valid h' hrst' hv, acceptedAt_of_not_valid h' hrst' hv⟩⟩

/-! #### A consuming edge (R147) -/

/-- A held response that the host takes while it presents no request. -/
theorem edgeEvent_eq_consume {s : State} (h : (portsNow s).rspReady = .fixed true) (hrst : (portsNow s).rst = false)
    (hreq : (portsNow s).reqValid = false) (hv : s.rsp.valid = true) : edgeEvent s = .consume := by
  simp [edgeEvent_fixed s true h, hrst, hreq, hv]

theorem consumedAt_of_consume {s : State} (he : edgeEvent s = .consume) (hv : s.rsp.valid = true) :
    consumedAt s = [s.rsp] := by
  have hloop : (portsNow s).noLoop := noLoop_of_edgeEvent_ne_looped (by simp [he])
  simp [consumedAt_by_event hloop, he, held_of_valid hv]

/-- The response outputs are wires from `RSP` (R22), so a consuming edge lowers `rsp_valid` and moves no other. -/
theorem outputs_edgeResult_of_consume {s : State} (he : edgeEvent s = .consume) :
    outputs (edgeResult s) = { outputs s with reqReady := reqReady (edgeResult s), rspValid := false } := by
  simp only [outputs, edgeResult_rsp_of_consume he]

/-- Settles O12: with `req_valid = 0` the edge is a consuming one, which writes `valid` alone. -/
theorem consumedResponseStaysOnOutputs : Obligations.ConsumedResponseStaysOnOutputs := by
  intro s h hrst hreq hv
  have he := edgeEvent_eq_consume h hrst hreq hv
  refine ⟨consumedAt_of_consume he hv, edgeResult s, step_eq s, ?_⟩
  simp [outputs_edgeResult_of_consume he]

end Sys2Proof.Machine

/-! ### Runs without a lost response, held and untaken responses, throughput (10_state.md R25 to R27, R127, R150) -/

namespace Sys2Proof.Machine

/-- What the host does over a run is what it does now and over the run from the next state. -/
theorem forall_mem_portsOver_succ {P : Ports → Prop} {k : Nat} {s : State} :
    (∀ p ∈ portsOver (k + 1) s, P p) ↔ P (portsNow s) ∧ ∀ p ∈ portsOver k (edgeResult s), P p := by
  rw [portsOver_edgeResult]
  exact List.forall_mem_cons

theorem edgeEvent_ne_reset_of_not_rst {s : State} (h : (portsNow s).noLoop) (hrst : (portsNow s).rst = false) :
    edgeEvent s ≠ .reset := by
  obtain ⟨level, hlevel⟩ := (noLoop_iff_exists_fixed _).1 h
  simp [edgeEvent_fixed_eq_reset_iff s level hlevel, hrst]

/-- Settles O17, by induction on the number of edges: the first edge moves a response from one side of the balance to
the other, and the run that remains starts with what it leaves held. -/
theorem noResponseLostOrDuplicated : Obligations.NoResponseLostOrDuplicated := by
  intro k s h
  induction k generalizing s with
  | zero => simp
  | succ k ih =>
    obtain ⟨⟨hloop, hrst⟩, hlater⟩ := forall_mem_portsOver_succ.1 h
    have hfirst := held_append_accepted_eq_consumed_append_held hloop (edgeEvent_ne_reset_of_not_rst hloop hrst)
    calc held s ++ (acceptedOver (k + 1) s).map responseTo
        = held s ++ (acceptedAt s).map responseTo ++ (acceptedOver k (edgeResult s)).map responseTo := by simp
      _ = consumedAt s ++ (held (edgeResult s) ++ (acceptedOver k (edgeResult s)).map responseTo) := by
        rw [hfirst, List.append_assoc]
      _ = consumedOver (k + 1) s ++ held (stateAfter (k + 1) s) := by simp [ih _ hlater]

/-- A held response and `rsp_ready = 0`: the block can neither consume nor accept (R26). -/
theorem edgeEvent_eq_hold {s : State} (h : (portsNow s).rspReady = .fixed false) (hrst : (portsNow s).rst = false)
    (hv : s.rsp.valid = true) : edgeEvent s = .hold := by
  simp [edgeEvent_fixed s false h, hrst, hv]

/-- Settles O14, by induction on the number of edges: each is a holding edge, which keeps the premise on `RSP.valid`. -/
theorem untakenResponseIsHeld : Obligations.UntakenResponseIsHeld := by
  intro k s hv h
  induction k generalizing s with
  | zero => simp
  | succ k ih =>
    obtain ⟨⟨hrst, hready⟩, hlater⟩ := forall_mem_portsOver_succ.1 h
    have he := edgeEvent_eq_hold hready hrst hv
    have hkeep := edgeResult_rsp_of_hold he
    obtain ⟨hrsp, hacc, hcons⟩ := ih (edgeResult s) (hkeep ▸ hv) hlater
    have haccNow : acceptedAt s = [] := by rw [acceptedAt, he]
    have hconsNow : consumedAt s = [] := by simp [consumedAt_fixed s false hready]
    exact ⟨by rw [stateAfter_succ, hrsp, hkeep], by rw [acceptedOver_succ, haccNow, hacc]; rfl,
      by rw [consumedOver_succ, hconsNow, hcons]; rfl⟩

/-- Settles O15, by induction on the number of edges: with `rsp_ready = 1` every presented request is accepted, whatever
is held. -/
theorem fullThroughputWhenReady : Obligations.FullThroughputWhenReady := by
  intro k s h
  induction k generalizing s with
  | zero => rfl
  | succ k ih =>
    obtain ⟨⟨hrst, hreq, hready⟩, hlater⟩ := forall_mem_portsOver_succ.1 h
    have hnow : acceptedAt s = [decodeReq (reqWord (portsNow s))] := by
      simp [acceptedAt_fixed s true hready, hrst, hreq, fetch]
    rw [acceptedOver_succ, hnow, ih _ hlater, portsOver_edgeResult]
    rfl

end Sys2Proof.Machine

/-! ### The legal values of the response register (10_state.md R23, 30_encoding.md R63, 60_exceptions.md R120) -/

namespace Sys2Proof.Machine

/-! #### What each operation can give -/

theorem execute_buildRange_low {x : Operands} (h : x.arg = 2000) :
    execute (.buildRange x) = framePayload frameRange2000 :=
  if_pos h

theorem execute_buildRange_high {x : Operands} (h : x.arg = 5000) :
    execute (.buildRange x) = framePayload frameRange5000 :=
  (if_neg (by rw [h]; decide)).trans (if_pos h)

/-- The three outcomes of `BUILD_RANGE` (R103). -/
theorem execute_buildRange_cases (x : Operands) :
    x.arg = 2000 ∧ execute (.buildRange x) = framePayload frameRange2000 ∨
    x.arg = 5000 ∧ execute (.buildRange x) = framePayload frameRange5000 ∨
    x.arg ≠ 2000 ∧ x.arg ≠ 5000 ∧ execute (.buildRange x) = errorPayload statusInvalidArgument := by
  by_cases hlow : x.arg = 2000
  · exact .inl ⟨hlow, execute_buildRange_low hlow⟩
  by_cases hhigh : x.arg = 5000
  · exact .inr (.inl ⟨hhigh, execute_buildRange_high hhigh⟩)
  · exact .inr (.inr ⟨hlow, hhigh, execute_buildRange_of_unsupported hlow hhigh⟩)

/-- `DECODE` alone gives a reading (R23). -/
theorem execute_ppm_temp_of_not_decode {i : Instr} (h : ∀ x, i ≠ .decode x) :
    (execute i).ppm = 0 ∧ (execute i).temp = 0 := by
  cases i with
  | decode x => exact absurd rfl (h x)
  | buildRange x => exact execute_buildRange_ppm_temp x
  | cksum x => exact ⟨rfl, rfl⟩
  | buildRead x => exact ⟨rfl, rfl⟩
  | buildCal x => exact ⟨rfl, rfl⟩
  | reservedFive x => exact ⟨rfl, rfl⟩
  | reservedSixSeven low x => exact ⟨rfl, rfl⟩

/-- An error of `DECODE` gives no reading (R96). -/
theorem execute_decode_ppm_temp_of_status_ne {x : Operands} (h : (execute (.decode x)).status ≠ 0) :
    (execute (.decode x)).ppm = 0 ∧ (execute (.decode x)).temp = 0 := by
  by_cases hlen : x.len = 9
  · have hck : frameChecksum x.data ≠ byteAt x.data 8 := fun hck =>
      h ((execute_decode_status_eq_zero_iff x).2 ⟨hlen, hck⟩)
    rw [execute_decode_of_mismatch hlen hck]
    exact ⟨rfl, rfl⟩
  · rw [execute_decode_of_len_ne hlen]
    exact ⟨rfl, rfl⟩

theorem reading_of_ppm_or_temp_ne {i : Instr} (h : (execute i).ppm ≠ 0 ∨ (execute i).temp ≠ 0) :
    opOf i = opDecode ∧ (execute i).status = statusOk := by
  have hdecode : ∃ x, i = .decode x := by
    by_contra hno
    obtain ⟨hppm, htemp⟩ := execute_ppm_temp_of_not_decode (i := i) fun x hx => hno ⟨x, hx⟩
    simp [hppm, htemp] at h
  obtain ⟨x, rfl⟩ := hdecode
  refine ⟨rfl, by_contra fun hstatus => ?_⟩
  obtain ⟨hppm, htemp⟩ := execute_decode_ppm_temp_of_status_ne hstatus
  simp [hppm, htemp] at h

/-- The builders alone give a frame (R23). -/
theorem execute_frame_of_not_builder {i : Instr} (h : ∀ x, i ≠ .buildRead x ∧ i ≠ .buildCal x ∧ i ≠ .buildRange x) :
    (execute i).frame = 0 := by
  cases i with
  | decode x => exact execute_decode_frame x
  | cksum x => rfl
  | buildRead x => exact absurd rfl (h x).1
  | buildCal x => exact absurd rfl (h x).2.1
  | buildRange x => exact absurd rfl (h x).2.2
  | reservedFive x => rfl
  | reservedSixSeven low x => rfl

/-- `f` is a command frame of the operation `op`: one of the four constants, under its own builder (R100). -/
def CommandFrameOf (op : Op) (f : Frame) : Prop :=
  op = opBuildRead ∧ f = frameRead ∨ op = opBuildCal ∧ f = frameCal ∨
    op = opBuildRange ∧ (f = frameRange2000 ∨ f = frameRange5000)

/-- A payload either has no frame or is the answer of a builder that built one. -/
theorem execute_frame_cases (i : Instr) :
    (execute i).frame = 0 ∨ ∃ f, execute i = framePayload f ∧ CommandFrameOf (opOf i) f := by
  cases i with
  | decode x => exact .inl (execute_decode_frame x)
  | cksum x => exact .inl rfl
  | buildRead x => exact .inr ⟨frameRead, rfl, .inl ⟨rfl, rfl⟩⟩
  | buildCal x => exact .inr ⟨frameCal, rfl, .inr (.inl ⟨rfl, rfl⟩)⟩
  | buildRange x =>
    obtain ⟨-, h⟩ | ⟨-, h⟩ | ⟨-, -, h⟩ := execute_buildRange_cases x
    · exact .inr ⟨frameRange2000, h, .inr (.inr ⟨rfl, .inl rfl⟩)⟩
    · exact .inr ⟨frameRange5000, h, .inr (.inr ⟨rfl, .inr rfl⟩)⟩
    · exact .inl (by rw [h]; rfl)
  | reservedFive x => exact .inl rfl
  | reservedSixSeven low x => exact .inl rfl

/-- The errors but the checksum mismatch record nothing (R69, R120). -/
theorem execute_cksum_of_error {i : Instr} (hok : (execute i).status ≠ statusOk)
    (hmismatch : (execute i).status ≠ statusChecksumMismatch) : (execute i).cksum = 0 := by
  cases i with
  | decode x =>
    have hlen : x.len ≠ 9 := by
      intro hlen
      by_cases hck : frameChecksum x.data = byteAt x.data 8
      · exact hok ((execute_decode_status_eq_zero_iff x).2 ⟨hlen, hck⟩)
      · exact hmismatch (by rw [execute_decode_of_mismatch hlen hck])
    rw [execute_decode_of_len_ne hlen]
    rfl
  | cksum x => exact absurd rfl hok
  | buildRead x => exact absurd rfl hok
  | buildCal x => exact absurd rfl hok
  | buildRange x =>
    obtain ⟨-, h⟩ | ⟨-, h⟩ | ⟨-, -, h⟩ := execute_buildRange_cases x
    · exact absurd (by rw [h]; rfl) hok
    · exact absurd (by rw [h]; rfl) hok
    · rw [h]; rfl
  | reservedFive x => rfl
  | reservedSixSeven low x => rfl

theorem execute_status_le_four (i : Instr) : (execute i).status.toNat ≤ 4 := by
  rw [execute_status]
  split_ifs <;> decide

/-! #### The writes of the register -/

theorem legalRsp_reset : LegalRsp Rsp.reset := by
  constructor <;> simp [statusIllegalOp, statusInvalidArgument, statusShortRead, statusChecksumMismatch]

/-- No clause of legality speaks of `valid`. -/
theorem LegalRsp.setValid {r : Rsp} (h : LegalRsp r) (v : Bool) : LegalRsp { r with valid := v } :=
  { h with }

/-- The response to any request is legal. -/
theorem legalRsp_responseTo (i : Instr) : LegalRsp (responseTo i) := by
  obtain ⟨hshort, hmismatch, hinvalid, hillegal⟩ := execute_status_iff_cause i
  constructor
  case status_range => exact execute_status_le_four i
  case illegal_iff_reserved => exact hillegal
  case invalid_only_range => intro h; obtain ⟨x, rfl, -⟩ := hinvalid.1 h; rfl
  case short_only_decode => intro h; obtain ⟨x, rfl, -⟩ := hshort.1 h; rfl
  case mismatch_only_decode => intro h; obtain ⟨x, rfl, -⟩ := hmismatch.1 h; rfl
  case ppm_only_reading => exact fun h => reading_of_ppm_or_temp_ne (.inl h)
  case temp_only_reading => exact fun h => reading_of_ppm_or_temp_ne (.inr h)
  case frame_only_built =>
    intro h
    obtain ⟨f, hf, hbuilt⟩ := (execute_frame_cases i).resolve_left h
    rw [responseTo, hf]
    exact ⟨rfl, hbuilt⟩
  case frame_cksum =>
    intro h
    obtain ⟨f, hf, -⟩ := (execute_frame_cases i).resolve_left h
    rw [responseTo, hf]
    rfl
  case cksum_only_computed =>
    intro h
    by_contra hstatus
    obtain ⟨hok, hmis⟩ := not_or.1 hstatus
    exact h (execute_cksum_of_error hok hmis)

/-- Settles O20: each of the four writes of an edge without a loop leaves a legal register. -/
theorem everyEdgeKeepsResponseLegal : Obligations.EveryEdgeKeepsResponseLegal := by
  intro s t hloop hlegal hstep
  obtain ⟨-, -, ⟨he, -⟩ | ⟨-, hrsp⟩ | ⟨-, hrsp⟩ | ⟨-, hrsp⟩ | ⟨-, hrsp⟩⟩ := step_cases hstep
  · exact absurd ((edgeEvent_looped_iff s).1 he) hloop
  · exact hrsp ▸ legalRsp_reset
  · exact hrsp ▸ legalRsp_responseTo (fetch s)
  · exact hrsp ▸ hlegal.setValid false
  · exact hrsp ▸ hlegal

/-- Settles O21. -/
theorem resetStateIsLegal : Obligations.ResetStateIsLegal := legalRsp_reset

/-- Every run without a loop keeps the register legal. -/
theorem legalRsp_stateAfter (k : Nat) (s : State) (h : ∀ p ∈ portsOver k s, p.noLoop) (hlegal : LegalRsp s.rsp) :
    LegalRsp (stateAfter k s).rsp := by
  induction k generalizing s with
  | zero => exact hlegal
  | succ k ih =>
    obtain ⟨hnow, hlater⟩ := forall_mem_portsOver_succ.1 h
    rw [stateAfter_succ]
    exact ih (edgeResult s) hlater (everyEdgeKeepsResponseLegal s _ hnow hlegal (step_eq s))

/-- Settles O4: the reset edge leaves a legal register whatever it held, and the edges after it keep it legal. -/
theorem afterFirstResetResponseIsLegal : Obligations.AfterFirstResetResponseIsLegal := by
  intro s k hrst h
  obtain ⟨hnow, hlater⟩ := forall_mem_portsOver_succ.1 h
  obtain ⟨level, hlevel⟩ := (noLoop_iff_exists_fixed _).1 hnow
  have hreset := edgeResult_rsp_of_reset ((edgeEvent_fixed_eq_reset_iff s level hlevel).2 hrst)
  rw [stateAfter_succ]
  exact legalRsp_stateAfter k (edgeResult s) hlater (hreset ▸ legalRsp_reset)

/-- Settles O22: `exec` writes the response alone, whose fields are zero where another operation writes them. -/
theorem operationFrame : Obligations.OperationFrame := by
  intro i s t h
  obtain rfl : respond s (opOf i) (execute i) = t := by simpa [exec_eq_respond] using h
  exact ⟨rfl, rfl, rfl, rfl, execute_ppm_temp_of_not_decode, execute_frame_of_not_builder⟩

end Sys2Proof.Machine

/-! ### The handshake and the whole next state (10_state.md R25 to R27, 70_reset_and_hazards.md R141, R145, R150) -/

namespace Sys2Proof.Machine

/-! #### The handshake signals -/

/-- Settles O2: an empty register is ready unless `rst` is high. -/
theorem resetValuesAndOutputs : Obligations.ResetValuesAndOutputs := by
  refine ⟨rfl, fun s level hrsp h => ?_⟩
  have hready : reqReady s = !(portsNow s).rst := by simp [reqReady_fixed s level h, hrsp, readyLevel]
  rw [outputs, hready, hrsp]
  rfl

theorem reqReady_fixed_iff (s : State) (level : Bool) (h : (portsNow s).rspReady = .fixed level) :
    reqReady s = true ↔ (portsNow s).rst = false ∧ (s.rsp.valid = false ∨ level = true) := by
  simp [reqReady_fixed s level h, readyLevel]

/-- Settles O5: acceptance asks for `req_valid` and for what `req_ready` says. -/
theorem handshakeSignals : Obligations.HandshakeSignals := by
  intro s level h
  have hready := reqReady_fixed_iff s level h
  refine ⟨hready, ?_, consumedAt_fixed s level h⟩
  rw [acceptedAt_fixed s level h]
  exact if_congr (by rw [hready]; tauto) rfl rfl

theorem edgeEvent_eq_accept {s : State} {level : Bool} (h : (portsNow s).rspReady = .fixed level)
    (hrst : (portsNow s).rst = false) (hreq : (portsNow s).reqValid = true) (hfree : s.rsp.valid = false ∨ level = true) :
    edgeEvent s = .accept := by
  simp [edgeEvent_fixed s level h, hrst, hreq, hfree]

/-- Settles O6: the three premises make the edge an accepting one, and such a step is `exec` of the request fetched. -/
theorem stepRunsAcceptedRequest : Obligations.StepRunsAcceptedRequest := by
  intro s level h hrst hreq hfree
  rw [step, edgeEvent_eq_accept h hrst hreq hfree]
  rfl

/-! #### The next state of any edge -/

/-- An edge's result is its register write and the passage to the next cycle. -/
theorem step_eq_rsp (s : State) :
    step s = .next { rsp := (edgeResult s).rsp, drive := s.drive.tail, edge := s.edge + 1 } := by
  rw [step_eq, ← edgeResult_drive, ← edgeResult_edge]

theorem edgeResult_rsp_of_looped {s : State} (h : (portsNow s).rspReady = .fromReqReady) :
    (edgeResult s).rsp = Config.loopedRsp s.edge := by
  simp [edgeResult, (edgeEvent_looped_iff s).2 h]

/-- The precedence of R27 for the register alone. -/
theorem edgeResult_rsp_fixed (s : State) (level : Bool) (h : (portsNow s).rspReady = .fixed level) :
    (edgeResult s).rsp =
      if (portsNow s).rst = true then Rsp.reset
      else if (portsNow s).reqValid = true ∧ (s.rsp.valid = false ∨ level = true) then responseTo (fetch s)
      else if s.rsp.valid = true ∧ level = true then { s.rsp with valid := false }
      else s.rsp := by
  have he := edgeEvent_fixed s level h
  split_ifs at he ⊢
  · exact edgeResult_rsp_of_reset he
  · exact edgeResult_rsp_of_accept he
  · exact edgeResult_rsp_of_consume he
  · exact edgeResult_rsp_of_hold he

theorem opOf_fetch (s : State) : opOf (fetch s) = (portsNow s).reqOp := by
  rw [fetch, opOf_decodeReq, opField_reqWord]

/-- Settles O7: the accepted request's op code is the one on the ports. -/
theorem clockEdgeWritesRegister : Obligations.ClockEdgeWritesRegister := by
  intro s level h
  rw [step_eq_rsp, edgeResult_rsp_fixed s level h, responseTo, opOf_fetch]
  rfl

/-- Settles O8. -/
theorem everyEdgeCompletes : Obligations.EveryEdgeCompletes :=
  fun s => ⟨edgeResult s, step_eq s, edgeResult_drive s, edgeResult_edge s⟩

/-- Settles O9: each of the four is defined as its free value. -/
theorem loopedEdgeIsUnspecified : Obligations.LoopedEdgeIsUnspecified := by
  intro s h
  have he := (edgeEvent_looped_iff s).2 h
  refine ⟨by rw [reqReady, h], by rw [acceptedAt, he], by rw [consumedAt, h], ?_⟩
  rw [step_eq_rsp, edgeResult_rsp_of_looped h]

/-! #### Edges that accept nothing, and edges that accept a request -/

/-- Without acceptance the write is one of the others, and none of them reads the request ports. -/
theorem edgeResult_rsp_of_unaccepted {s : State} {level : Bool} (h : (portsNow s).rspReady = .fixed level)
    (hnone : acceptedAt s = []) :
    (edgeResult s).rsp =
      if (portsNow s).rst = true then Rsp.reset
      else if s.rsp.valid = true ∧ level = true then { s.rsp with valid := false }
      else s.rsp := by
  have hnot : ¬ ((portsNow s).rst = false ∧ (portsNow s).reqValid = true ∧ (s.rsp.valid = false ∨ level = true)) := by
    intro hacc
    rw [acceptedAt_fixed s level h, if_pos hacc] at hnone
    exact List.cons_ne_nil _ _ hnone
  rw [edgeResult_rsp_fixed s level h]
  by_cases hrst : (portsNow s).rst = true
  · rw [if_pos hrst, if_pos hrst]
  · rw [if_neg hrst, if_neg hrst, if_neg fun hreq => hnot ⟨Bool.eq_false_of_not_eq_true hrst, hreq⟩]

/-- Settles O10: what an edge without acceptance writes depends on the register, `rst`, `rsp_ready` and, at a looped
edge, the edge number. -/
theorem unacceptedRequestLeavesNoTrace : Obligations.UnacceptedRequestLeavesNoTrace := by
  intro s s' hrsp hdrive hedge hrst hready hnone hnone'
  have hwrite : (edgeResult s).rsp = (edgeResult s').rsp := by
    cases h : (portsNow s).rspReady with
    | fromReqReady => rw [edgeResult_rsp_of_looped h, edgeResult_rsp_of_looped (hready ▸ h), hedge]
    | fixed level =>
      rw [edgeResult_rsp_of_unaccepted h hnone, edgeResult_rsp_of_unaccepted (hready ▸ h) hnone', hrst, hrsp]
  rw [step_eq_rsp, step_eq_rsp, hwrite, hdrive, hedge]

theorem edgeResult_rsp_of_acceptedAt {s : State} {level : Bool} {i : Instr}
    (h : (portsNow s).rspReady = .fixed level) (hi : acceptedAt s = [i]) : (edgeResult s).rsp = responseTo i := by
  obtain ⟨he, rfl⟩ := (acceptedAt_fixed_eq_singleton_iff s level h i).1 hi
  exact edgeResult_rsp_of_accept he

/-- Settles O11: the outputs are wires from the register, which holds the response. -/
theorem acceptedResponseIsOnOutputs : Obligations.AcceptedResponseIsOnOutputs := by
  intro s i level h hi
  refine ⟨edgeResult s, step_eq s, ?_⟩
  simp [outputs, edgeResult_rsp_of_acceptedAt h hi, responseTo]

/-- At most one request is accepted per edge. -/
theorem acceptedAt_eq_singleton_of_ne_nil {s : State} {level : Bool} (h : (portsNow s).rspReady = .fixed level)
    (hne : acceptedAt s ≠ []) : acceptedAt s = [fetch s] := by
  rw [acceptedAt_fixed s level h] at hne ⊢
  exact if_pos (by_contra fun hnot => hne (if_neg hnot))

/-- Settles O18: both edges write the response to the one request they accept. -/
theorem resultIndependentOfEarlierRequests : Obligations.ResultIndependentOfEarlierRequests := by
  intro s s' level level' h h' hne heq
  have hs := acceptedAt_eq_singleton_of_ne_nil h hne
  refine ⟨edgeResult s, edgeResult s', step_eq s, step_eq s', ?_⟩
  rw [edgeResult_rsp_of_acceptedAt h hs, edgeResult_rsp_of_acceptedAt h' (heq ▸ hs)]

/-! #### The write of `exec` -/

/-- Settles O19. -/
theorem execWritesExecutePayload : Obligations.ExecWritesExecutePayload := exec_eq_respond

/-- The second of two accepting writes leaves nothing of the first (R27: the whole register at once). -/
theorem respond_respond (s : State) (op op' : Op) (p p' : Payload) :
    respond (respond s op p) op' p' = respond s op' p' := rfl

/-- Settles O27: the later request's write replaces the earlier one's, an error's like any other. -/
theorem errorChangesNoLaterRequest : Obligations.ErrorChangesNoLaterRequest := by
  intro i j s
  refine ⟨respond s (opOf i) (execute i), respond s (opOf j) (execute j), exec_eq_respond i s, ?_, exec_eq_respond j s,
    rfl, rfl⟩
  rw [exec_eq_respond, respond_respond]

end Sys2Proof.Machine

/-! ### Requests and their words (30_encoding.md R60, R62, R71, R72, R73) -/

namespace Sys2Proof.Machine

/-! #### The decoder and the encoder are inverse to each other -/

/-- The word keeps the request's op code and operands, and the op code selects the request's own arm. -/
theorem decodeReq_encode (i : Instr) : decodeReq (encode i) = i := by
  have hop : opField (encode i) = opOf i := opField_packReq ..
  have hx : operandsOf (encode i) = operands i := operandsOf_packReq ..
  unfold decodeReq
  rw [hop, hx]
  cases i with
  | reservedSixSeven low x => cases low <;> rfl
  | _ => rfl

theorem fitsRequest_iff (w : Nat) : fitsRequest w = true ↔ w < 2 ^ 99 := by
  simp [fitsRequest]

/-- Settles O54: `decodeWord` tests the width, and decodes what passes. -/
theorem widerWordsAreRejected : Obligations.WiderWordsAreRejected := by
  intro w
  exact ⟨fun h => if_neg (mt (fitsRequest_iff w).1 (Nat.not_lt.2 h)), fun h => if_pos ((fitsRequest_iff w).2 h)⟩

/-- Settles O48: a request word fits 99 bits, so the decoder on numbers reads it as `decodeReq` does. -/
theorem decodeOfEncodeIsIdentity : Obligations.DecodeOfEncodeIsIdentity := by
  intro i
  refine ⟨decodeReq_encode i, ?_⟩
  rw [(widerWordsAreRejected _).2 (encode i).isLt, BitVec.ofNat_toNat, BitVec.setWidth_eq, decodeReq_encode]

/-- The four fields of a word, side by side, are the whole word (R60). -/
theorem packReq_fields (r : Req) : packReq (opField r) (operandsOf r) = r := by
  unfold packReq operandsOf opField argField lenField dataField
  simp (disch := rfl) only [BitVec.extractLsb'_append_extractLsb'_eq_extractLsb']
  exact BitVec.extractLsb'_eq_self

/-- Settles O49: the decoder keeps the op field and the operands of a word. -/
theorem encodeOfDecodeIsIdentity : Obligations.EncodeOfDecodeIsIdentity := by
  intro r
  rw [encode, opOf_decodeReq, operands_decodeReq, packReq_fields]

theorem decodeReq_of_encode_eq {r : Req} {i : Instr} (h : encode i = r) : decodeReq r = i := by
  rw [← h, decodeReq_encode]

/-- Settles O55: each word is the encoding of the request beside it. -/
theorem specWordsDecode : Obligations.SpecWordsDecode :=
  ⟨decodeReq_of_encode_eq (by decide), decodeReq_of_encode_eq (by decide), decodeReq_of_encode_eq (by decide),
    decodeReq_of_encode_eq (by decide), decodeReq_of_encode_eq (by decide)⟩

/-! #### Listing lines -/

/-- Lane `i` of a listed frame is the `i`-th byte written, 00 beyond those (R72). -/
theorem byteAt_frameOfList (bs : List Byte) {i : Nat} (hi : i < 9) : byteAt (frameOfList bs) i = bs.getD i 0 := by
  rw [frameOfList, byteAt_frameOfBytes _ _ _ _ _ _ _ _ _ hi]
  interval_cases i <;> rfl

/-- The span of a `CKSUM` line stands at positions 1 to 7. -/
theorem getD_zero_cons_append (span : List Byte) {i : Nat} (hi : i < span.length) :
    ([0] ++ span ++ [0]).getD (i + 1) 0 = span.getD i 0 := by
  simp [List.getElem?_append_left hi]

theorem opOf_rawOp {n : Nat} (hn : n ≤ 7) : (opOf (expandListing (.rawOp n))).toNat = n := by
  rw [expandListing, opOf_decodeReq, opField]
  interval_cases n <;> rfl

theorem operands_rawOp {n : Nat} (hn : n ≤ 7) :
    operands (expandListing (.rawOp n)) = { arg := 0, len := 0, data := 0 } := by
  rw [expandListing, operands_decodeReq, operandsOf]
  interval_cases n <;> rfl

/-- Settles O56: a well-formed `VALIDATE` line writes nine bytes, the count its expansion presents. -/
theorem pseudoInstructionsExpand : Obligations.PseudoInstructionsExpand := by
  refine ⟨rfl, rfl, fun frame hwf => ?_⟩
  have hlen : frame.length = 9 := of_decide_eq_true hwf
  rw [expandListing, expandListing, hlen]
  rfl

/-- Settles O57: line by line; a number within its range is not cut by its field. -/
theorem listingFields : Obligations.ListingFields := by
  intro l hwf
  cases l with
  | decode bytes =>
    have hlen : bytes.length ≤ 9 := of_decide_eq_true hwf
    exact ⟨rfl, rfl, Nat.mod_eq_of_lt (by omega), fun i => byteAt_frameOfList bytes⟩
  | decodeLen n bytes =>
    obtain ⟨hn, -⟩ : n ≤ 255 ∧ bytes.length = min n 9 := by simpa [Listing.wellFormed] using hwf
    exact ⟨rfl, rfl, Nat.mod_eq_of_lt (by omega), fun i => byteAt_frameOfList bytes⟩
  | cksum span =>
    have hlen : span.length = 7 := of_decide_eq_true hwf
    refine ⟨rfl, rfl, rfl, byteAt_frameOfList _ (by decide), ?_, fun i hi => ?_⟩
    · exact (byteAt_frameOfList _ (by decide)).trans (by simp [hlen])
    · exact (byteAt_frameOfList _ (by omega)).trans (getD_zero_cons_append span (by omega))
  | buildRead => rfl
  | buildCal => rfl
  | buildRange maxPpm =>
    have hmax : maxPpm ≤ 65535 := of_decide_eq_true hwf
    exact ⟨rfl, Nat.mod_eq_of_lt (by omega), rfl, rfl⟩
  | rawOp n =>
    have hn : n ≤ 7 := of_decide_eq_true hwf
    exact ⟨opOf_rawOp hn, operands_rawOp hn⟩
  | buildRange2000 => rfl
  | buildRange5000 => rfl
  | validate frame => exact ⟨rfl, rfl, fun i => byteAt_frameOfList frame⟩

end Sys2Proof.Machine

/-! ### The source's codec and the command frames (40_checksum.md R80, 41_decode.md R90, 42_command_builder.md R103) -/

namespace Sys2Proof.Machine

/-! #### The source's checksum and `decodeResponse` -/

/-- Settles O29: both are the two's-complement negation of the wrapped sum, the source's as invert and add one. -/
theorem checksumAgreesWithWraparound : Obligations.ChecksumAgreesWithWraparound := by
  intro b1 b2 b3 b4 b5 b6 b7
  have hsum : [b1, b2, b3, b4, b5, b6, b7].foldl (· + ·) 0#8 = b1 + b2 + b3 + b4 + b5 + b6 + b7 := by simp
  have hinv : ∀ x : Byte, 0xFF#8 - x = ~~~x := fun _ => BitVec.allOnes_sub_eq_not ..
  rw [computeChecksum, hsum, checksum_eq_neg, BitVec.neg_eq_not_add, hinv]

/-- Nine bytes: the source compares the checksum of bytes 1 to 7 with byte 8. -/
theorem decodeResponse_nine (b0 b1 b2 b3 b4 b5 b6 b7 b8 : Byte) :
    decodeResponse [b0, b1, b2, b3, b4, b5, b6, b7, b8] =
      if checksum b1 b2 b3 b4 b5 b6 b7 = b8 then .ok { ppm := b2.toNat * 256 + b3.toNat, tempRaw := b4 }
      else .error .checksumMismatch := by
  rw [decodeResponse, checksumAgreesWithWraparound]

theorem decodeResponse_of_length_ne {bytes : List Byte} (h : bytes.length ≠ 9) :
    decodeResponse bytes = .error .shortRead := by
  unfold decodeResponse
  split
  · exact absurd rfl h
  · rfl

/-- What `DECODE` answers to nine presented bytes, in the source's terms. -/
theorem readingOf_execute_decode {x : Operands} (hlen : x.len = 9) :
    readingOf (execute (.decode x)) = some (
      if frameChecksum x.data = byteAt x.data 8 then
        .ok { ppm := (byteAt x.data 2).toNat * 256 + (byteAt x.data 3).toNat, tempRaw := byteAt x.data 4 }
      else .error .checksumMismatch) := by
  by_cases hck : frameChecksum x.data = byteAt x.data 8
  · rw [execute_decode_of_match hlen hck, if_pos hck, ← framePpm_toNat]
    rfl
  · rw [execute_decode_of_mismatch hlen hck, if_neg hck]
    rfl

theorem presentBytes_nine (b0 b1 b2 b3 b4 b5 b6 b7 b8 : Byte) :
    presentBytes [b0, b1, b2, b3, b4, b5, b6, b7, b8] =
      { arg := 0, len := 9, data := frameOfBytes b0 b1 b2 b3 b4 b5 b6 b7 b8 } := rfl

/-- Settles O39: nine presented bytes are checked as the source checks them, any other count is a short read for both. -/
theorem decodeRefinesSourceCodec : Obligations.DecodeRefinesSourceCodec := by
  intro bytes
  by_cases h9 : bytes.length = 9
  · match bytes, h9 with
    | [b0, b1, b2, b3, b4, b5, b6, b7, b8], _ =>
      rw [presentBytes_nine, readingOf_execute_decode rfl, decodeResponse_nine, frameChecksum_frameOfBytes]
      simp [byteAt_frameOfBytes]
  · have hlen : (presentBytes bytes).len ≠ 9 := mt (presentCount_eq_nine_iff bytes.length).1 h9
    rw [execute_decode_of_len_ne hlen, decodeResponse_of_length_ne h9]
    rfl

/-! #### `BUILD_RANGE` -/

theorem frameRange2000_eq : frameRange2000 = 0x8FD0070000009901FF := by decide
theorem frameRange5000_eq : frameRange5000 = 0xCB88130000009901FF := by decide

/-- Settles O43: `exec` writes the response of each of the three outcomes. -/
theorem buildRangeResult : Obligations.BuildRangeResult := by
  intro x s
  rw [exec_eq_respond, respond]
  obtain ⟨harg, h⟩ | ⟨harg, h⟩ | ⟨hlow, hhigh, h⟩ := execute_buildRange_cases x
  · rw [h, responseOf_framePayload, frameRange2000_eq, harg]; rfl
  · rw [h, responseOf_framePayload, frameRange5000_eq, harg]; rfl
  · have hlow' : x.arg.toNat ≠ 2000 := fun h => hlow (BitVec.eq_of_toNat_eq h)
    have hhigh' : x.arg.toNat ≠ 5000 := fun h => hhigh (BitVec.eq_of_toNat_eq h)
    rw [h, if_neg hlow', if_neg hhigh']; rfl

/-- A number below 2^16 is not cut by `arg`. -/
theorem ofNat_arg_inj {n m : Nat} (hn : n < 65536) (hm : m < 65536) : BitVec.ofNat 16 n = BitVec.ofNat 16 m ↔ n = m := by
  rw [← BitVec.toNat_inj, BitVec.toNat_ofNat, BitVec.toNat_ofNat, Nat.mod_eq_of_lt hn, Nat.mod_eq_of_lt hm]

/-- Settles O44: the source tests the number for the same two values. -/
theorem buildRangeRefinesSourceCodec : Obligations.BuildRangeRefinesSourceCodec := by
  intro n len data hn
  by_cases hlow : n = 2000
  · rw [hlow, execute_buildRange_low rfl]; decide
  by_cases hhigh : n = 5000
  · rw [hhigh, execute_buildRange_high rfl]; decide
  · have hlow' : BitVec.ofNat 16 n ≠ 2000 := mt (ofNat_arg_inj hn (by decide)).1 hlow
    have hhigh' : BitVec.ofNat 16 n ≠ 5000 := mt (ofNat_arg_inj hn (by decide)).1 hhigh
    rw [execute_buildRange_of_unsupported hlow' hhigh', buildSetRangeCommand, if_neg hlow, if_neg hhigh]
    rfl

/-! #### The format of the frames, and the frames as responses -/

/-- The bytes every command frame has (R64): start byte, address, zeros at 3 to 5, and the checksum at 8. -/
def CommandFormat (f : Frame) : Prop :=
  byteAt f 0 = 0xFF ∧ byteAt f 1 = 0x01 ∧ byteAt f 3 = 0 ∧ byteAt f 4 = 0 ∧ byteAt f 5 = 0 ∧
    byteAt f 8 = frameChecksum f

theorem commandFormat_frameRead : CommandFormat frameRead := by unfold CommandFormat; decide
theorem commandFormat_frameCal : CommandFormat frameCal := by unfold CommandFormat; decide
theorem commandFormat_frameRange2000 : CommandFormat frameRange2000 := by unfold CommandFormat; decide
theorem commandFormat_frameRange5000 : CommandFormat frameRange5000 := by unfold CommandFormat; decide

/-- A set-range frame carries its range big-endian at positions 6 and 7. -/
theorem execute_buildRange_format {x : Operands} (hok : (execute (.buildRange x)).status = 0) :
    CommandFormat (execute (.buildRange x)).frame ∧ byteAt (execute (.buildRange x)).frame 2 = 0x99 ∧
      byteAt (execute (.buildRange x)).frame 6 ++ byteAt (execute (.buildRange x)).frame 7 = x.arg := by
  obtain ⟨harg, h⟩ | ⟨harg, h⟩ | ⟨-, -, h⟩ := execute_buildRange_cases x
  · rw [h, harg]
    exact ⟨commandFormat_frameRange2000, by decide, by decide⟩
  · rw [h, harg]
    exact ⟨commandFormat_frameRange5000, by decide, by decide⟩
  · rw [h] at hok
    exact absurd hok (by decide)

theorem frameRead_operation_bytes : byteAt frameRead 2 = 0x86 ∧ byteAt frameRead 6 = 0 ∧ byteAt frameRead 7 = 0 := by
  decide

theorem frameCal_operation_bytes : byteAt frameCal 2 = 0x87 ∧ byteAt frameCal 6 = 0 ∧ byteAt frameCal 7 = 0 := by
  decide

/-- Settles O45: the bytes of the constants, which are fixed words, under each builder. -/
theorem builtFramesMeetFormat : Obligations.BuiltFramesMeetFormat := by
  intro x
  obtain ⟨hr2, hr6, hr7⟩ := frameRead_operation_bytes
  obtain ⟨hc2, hc6, hc7⟩ := frameCal_operation_bytes
  refine ⟨fun i hi hok => ?_, hr2, hr6, hr7, hc2, hc6, hc7, fun hok => (execute_buildRange_format hok).2⟩
  simp only [List.mem_cons, List.not_mem_nil, or_false] at hi
  obtain rfl | rfl | rfl := hi
  · exact commandFormat_frameRead
  · exact commandFormat_frameCal
  · exact (execute_buildRange_format hok).1

/-- What the constants hold at the positions a response is read from (R104). -/
theorem commandFrame_read_as_response : ∀ c ∈ [(frameRead, 0x79#8, 34304), (frameCal, 0x78#8, 34560),
      (frameRange2000, 0x8F#8, 39168), (frameRange5000, 0xCB#8, 39168)],
    byteAt c.1 8 = c.2.1 ∧ frameChecksum c.1 = c.2.1 ∧ framePpm c.1 = BitVec.ofNat 16 c.2.2 ∧ frameTemp c.1 = 0 := by
  decide

/-- Settles O46: the bytes of the constants, and the results of `CKSUM` and of a matching `DECODE`. -/
theorem commandFramesDecodeAsValid : Obligations.CommandFramesDecodeAsValid := by
  intro c hc
  obtain ⟨h8, hck, hppm, htemp⟩ := commandFrame_read_as_response c hc
  refine ⟨h8, hck, fun arg len => ⟨?_, ?_⟩⟩
  · rw [← hck]; rfl
  · have hmatch : frameChecksum c.1 = byteAt c.1 8 := hck.trans h8.symm
    rw [execute_decode_of_match (x := { arg := arg, len := 9, data := c.1 }) rfl hmatch, hppm, htemp, hck]; rfl

end Sys2Proof.Machine
